-- ==== Sys2Proof/Word.lean ====
section
/-! DEFINITION. The word types of CORE (spec/10_state.md R33: every value is a bit pattern of 1, 4, 32 or 64
bits; spec/00_scope.md R13: signedness belongs to the operation that reads a pattern, never to its storage).
`+`, `-` on a `BitVec` wrap modulo 2^n, which is R14's `+32`, `-32`, `+64`; `^^^`, `~~~`, `<<<`, `>>>` are R14's
bitwise operations and zero-filling shifts; `BitVec.toInt` is R13's `s32`, `s64`. -/

namespace Sys2Proof

/-- A Mixer word, R10 `WORD` = 32. -/
abbrev Word := BitVec 32

/-- A 64-bit value: hash, seed, magic, key port, partition count (R10 `HASHW`, `SEEDW`, `MAGICW`, `NPW`). -/
abbrev DWord := BitVec 64

/-- The command port (R24). -/
abbrev Cmd := BitVec 4

/-- A request as one word (R50). -/
abbrev ReqWord := BitVec 260

/-- A response as one word (R50). -/
abbrev RspWord := BitVec 65

end Sys2Proof
end

