-- ==== Sys2Proof/Machine/Bits.lean ====
section
/-! DEFINITION. The bit-field helpers of spec/00_scope.md R12 and the significance order of spec/20_memory.md R45. -/

namespace Sys2Proof

/-- `v[63:32]`. -/
def hi32 (v : DWord) : Word := v.extractLsb' 32 32

/-- `v[31:0]`. -/
def lo32 (v : DWord) : Word := v.extractLsb' 0 32

/-- `{x, y}` of two words: `x` in the more significant half. -/
def cat32 (x y : Word) : DWord := x ++ y

/-- `zext_64` of a word. -/
def zext64 (v : Word) : DWord := v.setWidth 64

/-- `sext_64` of a word: the top bit replicated (R15). -/
def sext64 (v : Word) : DWord := v.signExtend 64

/-- A flag as one bit. -/
def bit (b : Bool) : BitVec 1 := BitVec.ofBool b

end Sys2Proof
end

