-- ==== Sys2Proof/Syntax.lean ====
section
/-! DEFINITION. The syntax of CORE: the request ports, the four commands (the rows of spec/opcode_table.json), the
micro-operations of the Mixer's step tables, and the textual form of a request (spec/30_encoding.md). -/

namespace Sys2Proof

/-- The five request ports, sampled together (spec/10_state.md R24; the fields of `REQ`, R50). -/
structure Request where
  cmd    : Cmd
  val    : DWord
  nparts : DWord
  seed   : DWord
  magic  : DWord
deriving DecidableEq, Repr

/-- The operands of a command: the two operand-selection fields of `CMD` (R51) and the four operand ports (R24).
A command keeps the fields it ignores (R55), so that decoding loses no bit of a request; that they have no effect
is a statement about the meanings, not a gap in the syntax (log entry 14). -/
structure Operands where
  /-- `MG` = `CMD[3]`: magic select. -/
  mg     : Bool
  /-- `SD` = `CMD[2]`: seed select. -/
  sd     : Bool
  val    : DWord
  nparts : DWord
  seed   : DWord
  magic  : DWord
deriving DecidableEq, Repr

/-- The four commands, spec/30_encoding.md R53, one constructor per row of spec/opcode_table.json. -/
inductive Instr where
  /-- HASHX32: extended hash of a 32-bit key (R114). -/
  | hashx32 (q : Operands)
  /-- HASHX64: extended hash of a 64-bit key (R115). -/
  | hashx64 (q : Operands)
  /-- PIDX32: partition index of a 32-bit key (R117). -/
  | pidx32 (q : Operands)
  /-- PIDX64: partition index of a 64-bit key (R116). -/
  | pidx64 (q : Operands)
deriving DecidableEq, Repr

/-- The names of the three Mixer registers (spec/10_state.md R21). -/
inductive Reg where
  | a
  | b
  | c
deriving DecidableEq, Repr

/-- A rotation amount, spec/40_mixer.md R71, R72: an integer in 1..31; no other amount has a meaning. -/
structure RotAmount where
  val : Nat
  ok  : 1 ≤ val ∧ val ≤ 31
deriving DecidableEq, Repr

/-- The five kinds of read-modify-write step, spec/40_mixer.md R73 to R77; `x` is written, `y` is read. -/
inductive MicroOp where
  /-- `SUB x, y` (R73). -/
  | sub (x y : Reg)
  /-- `ADD x, y` (R74). -/
  | add (x y : Reg)
  /-- `XORROT x, y, k` (R75). -/
  | xorRot (x y : Reg) (k : RotAmount)
  /-- `XOR x, y` (R76). -/
  | xor (x y : Reg)
  /-- `SUBROT x, y, k` (R77). -/
  | subRot (x y : Reg) (k : RotAmount)
deriving DecidableEq, Repr

/-- The four mnemonics of the textual form (spec/30_encoding.md R60). -/
inductive Mnemonic where
  | hashx32
  | hashx64
  | pidx32
  | pidx64
deriving DecidableEq, Repr

/-- A `value` literal, R60: signed decimal, or `0x` hexadecimal of the key's width. -/
inductive ValueLit where
  | dec (v : Int)
  | hex (v : Nat)
deriving DecidableEq, Repr

/-- A request in the textual form of R60, before its ranges are checked:
`MNEMONIC value [, nparts] [, seed=<u64>] [, magic=<u64>]`. -/
structure TextRequest where
  mnemonic : Mnemonic
  value    : ValueLit
  nparts   : Option Int
  seed     : Option Nat
  magic    : Option Nat
deriving DecidableEq, Repr

end Sys2Proof
end

