-- ==== Sys2Proof/WellFormed.lean ====
section
/-! DEFINITION. Well-formedness. Every request is legal (spec/30_encoding.md R54), so every command is well formed;
what can be ill formed is a micro-operation (spec/40_mixer.md section 2: `x`, `y` name two different registers), a
rotation amount (R72), and a textual request (R60). -/

namespace Sys2Proof

/-- R54: every value of every operand port is legal for every command. -/
def Instr.wf : Instr → Bool
  | .hashx32 _ => true
  | .hashx64 _ => true
  | .pidx32 _  => true
  | .pidx64 _  => true

/-- R72: the amounts that have a meaning. -/
def rotAmountOk (k : Nat) : Bool := decide (1 ≤ k ∧ k ≤ 31)

/-- The two register names of a micro-operation differ (spec/40_mixer.md section 2). -/
def MicroOp.wf : MicroOp → Bool
  | .sub x y      => decide (x ≠ y)
  | .add x y      => decide (x ≠ y)
  | .xorRot x y _ => decide (x ≠ y)
  | .xor x y      => decide (x ≠ y)
  | .subRot x y _ => decide (x ≠ y)

/-- R53: the mnemonic names a 64-bit key (`W` = 1). -/
def Mnemonic.wide : Mnemonic → Bool
  | .hashx32 => false
  | .hashx64 => true
  | .pidx32  => false
  | .pidx64  => true

/-- R53: the mnemonic names a partition-index command (`FN` = 1). -/
def Mnemonic.index : Mnemonic → Bool
  | .hashx32 => false
  | .hashx64 => false
  | .pidx32  => true
  | .pidx64  => true

/-- A signed literal fits in `n` bits of two's complement. -/
def fitsSigned (n : Nat) (v : Int) : Bool := decide (-(2 ^ (n - 1) : Int) ≤ v ∧ v < (2 ^ (n - 1) : Int))

/-- An unsigned literal fits in `n` bits. -/
def fitsUnsigned (n : Nat) (v : Nat) : Bool := decide (v < 2 ^ n)

/-- The width of the mnemonic's key, R53. -/
def Mnemonic.keyWidth (m : Mnemonic) : Nat := if m.wide then 64 else 32

/-- R60: the value is a literal of the key's width. -/
def TextRequest.valueOk (t : TextRequest) : Bool :=
  match t.value with
  | .dec v => fitsSigned t.mnemonic.keyWidth v
  | .hex v => fitsUnsigned t.mnemonic.keyWidth v

/-- R60: `nparts` is written for PIDX, where it is mandatory, and for PIDX only; it lies in [-2^63, 2^63 - 1]. -/
def TextRequest.npartsOk (t : TextRequest) : Bool :=
  match t.nparts with
  | none   => !t.mnemonic.index
  | some n => t.mnemonic.index && fitsSigned 64 n

/-- R60: `seed=` takes a 64-bit literal. -/
def TextRequest.seedOk (t : TextRequest) : Bool := t.seed.all (fitsUnsigned 64)

/-- R60: `magic=` takes a 64-bit literal. -/
def TextRequest.magicOk (t : TextRequest) : Bool := t.magic.all (fitsUnsigned 64)

/-- A textual request that R60 admits. -/
def TextRequest.wf (t : TextRequest) : Bool := t.valueOk && t.npartsOk && t.seedOk && t.magicOk

end Sys2Proof
end

