-- ==== Sys2Proof/Decode.lean ====
section
/-! DEFINITION. Request and response formats (spec/30_encoding.md R50 to R55): the fields of `CMD`, the packing of
`REQ`, the decoder and the encoder. Every value of `CMD` selects a command (R54), so decoding a request never refuses; the
one thing refused, by name, is a number too wide to be a `REQ` word. -/

namespace Sys2Proof

/-- `W` = `CMD[0]` (R51). -/
def cmdW (c : Cmd) : Bool := c.getLsbD 0

/-- `FN` = `CMD[1]` (R51). -/
def cmdFN (c : Cmd) : Bool := c.getLsbD 1

/-- `SD` = `CMD[2]` (R51). -/
def cmdSD (c : Cmd) : Bool := c.getLsbD 2

/-- `MG` = `CMD[3]` (R51). -/
def cmdMG (c : Cmd) : Bool := c.getLsbD 3

/-- `CMD` from its four fields, `MG` the most significant (R51). -/
def cmdOf (mg sd fn w : Bool) : Cmd := bit mg ++ bit sd ++ bit fn ++ bit w

/-- `REQ = {CMD, VAL, NPARTS, SEED, MAGIC}` (R50). -/
def Request.pack (r : Request) : ReqWord := r.cmd ++ r.val ++ r.nparts ++ r.seed ++ r.magic

/-- The five ports out of one `REQ` word (R50): `CMD` 259:256, `VAL` 255:192, `NPARTS` 191:128, `SEED` 127:64,
`MAGIC` 63:0. -/
def Request.unpack (w : ReqWord) : Request :=
  { cmd    := w.extractLsb' 256 4
    val    := w.extractLsb' 192 64
    nparts := w.extractLsb' 128 64
    seed   := w.extractLsb' 64 64
    magic  := w.extractLsb' 0 64 }

/-- The operands of the selected command (R51, R53: `SD` and `MG` never change which command it is). -/
def Request.operands (r : Request) : Operands :=
  { mg := cmdMG r.cmd, sd := cmdSD r.cmd, val := r.val, nparts := r.nparts, seed := r.seed, magic := r.magic }

/-- The command a request selects: `CMD[1:0] = {FN, W}` (R53). -/
def decodeRequest (r : Request) : Instr :=
  match cmdFN r.cmd, cmdW r.cmd with
  | false, false => .hashx32 r.operands
  | false, true  => .hashx64 r.operands
  | true,  false => .pidx32 r.operands
  | true,  true  => .pidx64 r.operands

/-- The command of a `REQ` word. -/
def decode (w : ReqWord) : Instr := decodeRequest (Request.unpack w)

/-- Why a number is no request. -/
inductive DecodeError where
  /-- It has a bit above bit 259 (R50: `REQ` has the fixed length of 260 bits). -/
  | widerThanReq
deriving DecidableEq, Repr

/-- The command of a number read as a `REQ` word (R50, R52: one format, one length). -/
def decodeWord (w : Nat) : Except DecodeError Instr :=
  if w < 2 ^ 260 then .ok (decode (BitVec.ofNat 260 w)) else .error .widerThanReq

/-- The request with given operands and given `FN`, `W` (R51). -/
def Operands.request (q : Operands) (fn w : Bool) : Request :=
  { cmd := cmdOf q.mg q.sd fn w, val := q.val, nparts := q.nparts, seed := q.seed, magic := q.magic }

/-- The request ports that select a command (R53). -/
def encodeRequest : Instr → Request
  | .hashx32 q => q.request false false
  | .hashx64 q => q.request false true
  | .pidx32 q  => q.request true false
  | .pidx64 q  => q.request true true

/-- The `REQ` word of a command (R50). -/
def encode (i : Instr) : ReqWord := (encodeRequest i).pack

/-- A request made of an opcode-table word alone: spec/opcode_table.json numbers the bits of `CMD[3:0]` (R64), and
every operand port carries 0. A `CMD` has four bits, so the upper bits of the byte the table's row is rounded up to
land on no port (log entry 10). -/
def tableRequest (w : Nat) : Request :=
  { cmd := BitVec.ofNat 4 w, val := 0, nparts := 0, seed := 0, magic := 0 }

/-- The command the decoder reads from an opcode-table word. -/
def decodeTableWord (_nbits w : Nat) : Option Instr := some (decodeRequest (tableRequest w))

end Sys2Proof
end

