-- ==== Sys2Proof/Config.lean ====
section
/-! DEFINITION. What the block is built with (spec/00_scope.md R10). The named parameters that have more than one
instance are the fields of `Params`; the two that the spec leaves OPEN are uninterpreted constants with no body, so
that nothing proved about the machine after reset can rest on a value of theirs. The fixed constants of R32 stand in
Machine/Constants.lean. -/

namespace Sys2Proof

/-- `FINAL_GROUPS` (spec/40_mixer.md R84): six groups, the hardware the spec describes, or the other instance, seven. -/
inductive FinalGroups where
  | six
  | seven
deriving DecidableEq, Repr

/-- The parameters that a model takes as arguments (R10). They are fixed when the block is built
(spec/10_state.md R31). -/
structure Params where
  /-- R83, R84. -/
  finalGroups : FinalGroups
  /-- R119: whether PIDX32 adds the magic constant. -/
  magic32     : Bool
  /-- R159: the latency in clock cycles. -/
  lat         : Nat
deriving DecidableEq, Repr

/-- OPEN (R119, U1, log entry 4): the instance of `MAGIC32` this block was built with. -/
opaque Config.magic32 : Bool

/-- OPEN (R159, U6, log entry 3): the latency this block was built with. -/
opaque Config.lat : Nat

end Sys2Proof
end

