-- ==== Sys2Proof/Machine/Constants.lean ====
section
/-! DEFINITION. The hard-wired constants of CORE (spec/10_state.md R32, spec/00_scope.md R10) and the parameters of
the hardware this spec describes. The literals are the spec's (log entry 6). -/

namespace Sys2Proof

/-- `DEFAULT_SEED`, R32. -/
def Config.defaultSeed : DWord := 0x7A5B22367996DCFD

/-- `DEFAULT_MAGIC`, R32. -/
def Config.defaultMagic : DWord := 0x4992394D24F64163

/-- The golden-ratio constant of R86. -/
def Config.goldenRatio : Word := 0x9E3779B9

/-- The small integer of R86: the key length in bytes. -/
def Config.keyLength : Word := 4

/-- The large offset of R86. -/
def Config.initOffset : Word := 3923095

/-- `INITVAL`, R86: the sum of the three addends. -/
def Config.initval : Word := Config.goldenRatio + Config.keyLength + Config.initOffset

/-- `MIX_K[1..6]`, R80. -/
def Config.mixK1 : RotAmount := ⟨4, by decide⟩
def Config.mixK2 : RotAmount := ⟨6, by decide⟩
def Config.mixK3 : RotAmount := ⟨8, by decide⟩
def Config.mixK4 : RotAmount := ⟨16, by decide⟩
def Config.mixK5 : RotAmount := ⟨19, by decide⟩
def Config.mixK6 : RotAmount := ⟨4, by decide⟩

/-- `FIN_K[1..6]`, R83, and `FIN_K[7]`, R84. -/
def Config.finK1 : RotAmount := ⟨14, by decide⟩
def Config.finK2 : RotAmount := ⟨11, by decide⟩
def Config.finK3 : RotAmount := ⟨25, by decide⟩
def Config.finK4 : RotAmount := ⟨16, by decide⟩
def Config.finK5 : RotAmount := ⟨4, by decide⟩
def Config.finK6 : RotAmount := ⟨14, by decide⟩
def Config.finK7 : RotAmount := ⟨24, by decide⟩

/-- The block the spec describes: `FINAL_GROUPS` = 6 (R83), `MAGIC32` and `LAT` OPEN (R119, R159). -/
def Config.params : Params :=
  { finalGroups := .six, magic32 := Config.magic32, lat := Config.lat }

end Sys2Proof
end

