-- ==== Sys2Proof/Machine/State.lean ====
section
/-! DEFINITION. The state of CORE as plain data (spec/10_state.md), its faults and refusals, and the state after reset
(R35). CORE has no memory (spec/20_memory.md R40) and no program counter (R29), so State has neither. -/

namespace Sys2Proof.Machine

/-- The MixerState: `A`, `B`, `C` (R21). -/
structure Mixer where
  a : Word
  b : Word
  c : Word
deriving DecidableEq, Repr

/-- The two values of a response, `RSP = {ERR, RESULT}` (R25, spec/30_encoding.md R50). -/
structure Response where
  err    : Bool
  result : DWord
deriving DecidableEq, Repr

/-- What the host drives at one rising edge of `CLK` (R24, R26). -/
structure Edge where
  /-- `RST`. -/
  rst      : Bool
  /-- `REQ_VALID`. -/
  reqValid : Bool
  /-- `CMD`, `VAL`, `NPARTS`, `SEED`, `MAGIC`. -/
  req      : Request
deriving DecidableEq, Repr

/-- The state of CORE between two rising edges of `CLK`. -/
structure State where
  /-- The parameters the block was built with (spec/00_scope.md R10); no step changes them (R31). -/
  cfg      : Params
  /-- `A`, `B`, `C` (R21). -/
  mix      : Mixer
  /-- The named intermediates of a transaction (R23). -/
  seedEff  : DWord
  magicEff : DWord
  loHalf   : Word
  hiHalf   : Word
  key      : Word
  h        : DWord
  folded   : DWord
  idx      : DWord
  /-- The transactions in flight (R34, R35; spec/70_reset_and_hazards.md R156, R158): stage 0 is presented after the next
  edge; an empty stage presents nothing. Between edges there are `LAT` stages. -/
  pipe     : List (Option Response)
  /-- The response ports in the present cycle: `none` is `RSP_VALID` = 0, where `ERR` and `RESULT` have no value
  (R28). -/
  out      : Option Response
  /-- The MODEL's own: what the host drives at the coming edges, the next one first; past its end the host drives
  `RST` = 0 and `REQ_VALID` = 0 (log entry 9). -/
  edges    : List Edge
deriving DecidableEq, Repr

/-- Why an access ends in a fault. -/
inductive Fault where
  /-- Raised by the host's read of `ERR` or `RESULT` (`State.readResponse`) while `RSP_VALID` = 0 (R28, U7); no step and
  no command raises it. Safe: the spec gives the read no value. -/
  | noResponse
deriving DecidableEq, Repr

/-- Why something has no meaning in the model. -/
inductive Refusal where
  /-- Raised by an arm of `exec` whose command has no meaning yet; no arm raises it now. Safe: the machine stops. -/
  | notModelled (mnemonic : String)
  /-- Raised by `rotl32Checked` for an amount outside 1..31 (spec/40_mixer.md R72, U3); unreachable from every
  command. Safe: the spec gives such a rotation no meaning. -/
  | rotationAmount (k : Nat)
deriving DecidableEq, Repr

/-- The condition after reset of a block built with given parameters (R35, spec/70_reset_and_hazards.md R152): nothing
in flight and `RSP_VALID` = 0. The registers, whose reset values R35 leaves unspecified, hold 0 (DESIGN CHOICE, log entry
7); the host drives nothing (log entry 9). -/
def State.initial (p : Params) : State :=
  { cfg := p
    mix := { a := 0, b := 0, c := 0 }
    seedEff := 0, magicEff := 0, loHalf := 0, hiHalf := 0, key := 0, h := 0, folded := 0, idx := 0
    pipe := List.replicate p.lat none
    out := none
    edges := [] }

/-- The machine right after reset. -/
def State.reset : State := State.initial Config.params

end Sys2Proof.Machine
end

