-- ==== Sys2Proof/Machine/Ops.lean ====
section
/-! DEFINITION. The named operations over the state: the register writes of a transaction, its response, taking the one
exception, and what a clock edge does to the transactions in flight. -/

namespace Sys2Proof.Machine

/-- `A`, `B`, `C <- m`. -/
def State.setMix (m : Mixer) (s : State) : State := { s with mix := m }

/-- `SEEDEFF <- v`. -/
def State.setSeedEff (v : DWord) (s : State) : State := { s with seedEff := v }

/-- `MAGICEFF <- v`. -/
def State.setMagicEff (v : DWord) (s : State) : State := { s with magicEff := v }

/-- `LOHALF <- lo`, `HIHALF <- hi`. -/
def State.setHalves (lo hi : Word) (s : State) : State := { s with loHalf := lo, hiHalf := hi }

/-- `KEY <- v`. -/
def State.setKey (v : Word) (s : State) : State := { s with key := v }

/-- `H <- v`. -/
def State.setH (v : DWord) (s : State) : State := { s with h := v }

/-- `FOLDED <- v`. -/
def State.setFolded (v : DWord) (s : State) : State := { s with folded := v }

/-- `IDX <- v`. -/
def State.setIdx (v : DWord) (s : State) : State := { s with idx := v }

/-- `ERR`, `RESULT <- r`: the response of the command enters the transactions in flight behind all earlier ones
(spec/70_reset_and_hazards.md R156). -/
def State.respond (r : Response) (s : State) : State := { s with pipe := s.pipe ++ [some r] }

/-- Taking the one exception, `raise InvalidPartitionCount(v)` (spec/60_exceptions.md R131, R137): the response is
`ERR` = 1, `RESULT` = v and nothing else happens. No state is saved and no mode changes, so there is no return beside it
(R138). -/
def State.raiseInvalidPartitionCount (v : DWord) (s : State) : State := s.respond { err := true, result := v }

/-- An edge that accepts no request: nothing enters the transactions in flight. -/
def State.bubble (s : State) : State := { s with pipe := s.pipe ++ [none] }

/-- What the ports carry where the host drives nothing (log entry 9). -/
def Edge.idle : Edge := { rst := false, reqValid := false, req := { cmd := 0, val := 0, nparts := 0, seed := 0, magic := 0 } }

/-- What the host drives at the next rising edge. -/
def State.edge (s : State) : Edge := s.edges.headD Edge.idle

/-- The cycle that follows the edge (R158): the oldest stage is presented on the response ports, for this cycle only,
and the host goes on to its next edge. -/
def State.endCycle (s : State) : State :=
  { s with out := s.pipe.headD none, pipe := s.pipe.tail, edges := s.edges.tail }

/-- A rising edge with `RST` = 1 (R151, R152): nothing is accepted, everything in flight is discarded, `RSP_VALID` is 0;
the registers take their reset values (log entry 7). -/
def State.resetEdge (s : State) : State := { State.initial s.cfg with edges := s.edges.tail }

/-- `RSP_VALID` (spec/10_state.md R26). -/
def State.rspValid (s : State) : Bool := s.out.isSome

/-- The host's read of `ERR` and `RESULT` (R28): a fault of the host while `RSP_VALID` = 0. -/
def State.readResponse (s : State) : Except Fault Response :=
  match s.out with
  | some r => .ok r
  | none   => .error .noResponse

/-- `RSP = {ERR, RESULT}` as one word (spec/30_encoding.md R50). -/
def Response.pack (r : Response) : RspWord := bit r.err ++ r.result

/-- The response of one `RSP` word: `ERR` in bit 64, `RESULT` in 63:0 (R50). -/
def Response.unpack (w : RspWord) : Response := { err := w.getLsbD 64, result := w.extractLsb' 0 64 }

/-- `RESULT` as an index, which it is only when `ERR` = 0 (spec/70_reset_and_hazards.md R155). -/
def Response.index? (r : Response) : Option DWord := if r.err then none else some r.result

/-- The offending partition count `s64(RESULT)` that an error response carries (R131). -/
def Response.offendingCount? (r : Response) : Option Int := if r.err then some r.result.toInt else none

end Sys2Proof.Machine
end

