-- ==== Sys2Proof/Machine/Operands.lean ====
section
/-! DEFINITION. Operand assembly (spec/30_encoding.md R56 to R58; spec/41_partition_indexer.md R113). -/

namespace Sys2Proof.Machine

/-- `SEEDEFF = SEED if SD = 1 else DEFAULT_SEED` (R58, R113). Only the bit chooses: a port value of 0 is seed 0. -/
def selectSeed (q : Operands) : DWord := if q.sd then q.seed else Config.defaultSeed

/-- `MAGICEFF = MAGIC if MG = 1 else DEFAULT_MAGIC` (R58, R113). -/
def selectMagic (q : Operands) : DWord := if q.mg then q.magic else Config.defaultMagic

/-- The key operand for `W` = 0: `VAL[31:0]`; `VAL[63:32]` is ignored (R56). -/
def key32 (q : Operands) : Word := lo32 q.val

/-- The key operand for `W` = 1: `VAL[63:0]` (R56). -/
def key64 (q : Operands) : DWord := q.val

/-- The partition count as the signed number it is, `s64(NPARTS)` (R57). -/
def countOf (q : Operands) : Int := q.nparts.toInt

end Sys2Proof.Machine
end

