-- ==== Sys2Proof/Machine/Flags.lean ====
section
/-! DEFINITION. The predicates of a transaction (spec/10_state.md R30), each read once. The one status flag is `ERR`
of the response; additions and subtractions keep no carry or borrow. -/

namespace Sys2Proof.Machine

/-- `NPBAD = (s64(NPARTS) <= 0)`, read by NPCHECK (R104). -/
def npBad (nparts : DWord) : Bool := decide (nparts.toInt ≤ 0)

/-- `NEG = VAL[63]`, read by FOLD64 (R100). -/
def neg (val : DWord) : Bool := val.getLsbD 63

/-- `SEEDNZ = (SEEDEFF /= 0)`, all 64 bits compared, read by HASHWORD (spec/40_mixer.md R89). -/
def seedNZ (seed : DWord) : Bool := decide (seed ≠ 0)

end Sys2Proof.Machine
end

