-- ==== Sys2Proof/Machine/Mixer.lean ====
section
/-! DEFINITION. The Mixer (spec/40_mixer.md): ROTL32, the micro-operations, the step tables of MIXROUND and FINALIZE,
and HASHWORD. The tables are data, run strictly in order (R78). -/

namespace Sys2Proof.Machine

/-- ROTL32 (R71): circular left rotation of a word by 1..31. -/
def rotl32 (v : Word) (k : RotAmount) : Word := (v <<< k.val) ||| (v >>> (32 - k.val))

/-- A rotation amount from a number, if it has a meaning (R72). -/
def rotAmount? (k : Nat) : Option RotAmount := if h : 1 ≤ k ∧ k ≤ 31 then some ⟨k, h⟩ else none

/-- ROTL32 by any number: outside 1..31 refused by name (R72, U3). -/
def rotl32Checked (v : Word) (k : Nat) : Except Refusal Word :=
  match rotAmount? k with
  | some a => .ok (rotl32 v a)
  | none   => .error (.rotationAmount k)

/-- The value of a Mixer register; `x[0]`, `x[1]`, `x[2]` are its aliases (spec/00_scope.md R15). -/
def Mixer.get (m : Mixer) : Reg → Word
  | .a => m.a
  | .b => m.b
  | .c => m.c

/-- The register write `x <- v`. -/
def Mixer.set (m : Mixer) (x : Reg) (v : Word) : Mixer :=
  match x with
  | .a => { m with a := v }
  | .b => { m with b := v }
  | .c => { m with c := v }

/-- One micro-operation (R73 to R77): `x` is written, every other register keeps its value. -/
def runOp (m : Mixer) : MicroOp → Mixer
  | .sub x y      => m.set x (m.get x - m.get y)
  | .add x y      => m.set x (m.get x + m.get y)
  | .xorRot x y k => m.set x (m.get x ^^^ rotl32 (m.get y) k)
  | .xor x y      => m.set x (m.get x ^^^ m.get y)
  | .subRot x y k => m.set x (m.get x - rotl32 (m.get y) k)

/-- A step table, each step reading what all earlier ones left (R78). -/
def runOps (ops : List MicroOp) (m : Mixer) : Mixer := ops.foldl runOp m

/-- One group of MIXROUND (R80): `SUB x, z`; `XORROT x, z, k`; `ADD z, y`. -/
def mixGroup (x y z : Reg) (k : RotAmount) : List MicroOp := [.sub x z, .xorRot x z k, .add z y]

/-- `MIX_TABLE`, the 18 steps of R80. -/
def mixTable : List MicroOp :=
  mixGroup .a .b .c Config.mixK1 ++ mixGroup .b .c .a Config.mixK2 ++ mixGroup .c .a .b Config.mixK3 ++
  mixGroup .a .b .c Config.mixK4 ++ mixGroup .b .c .a Config.mixK5 ++ mixGroup .c .a .b Config.mixK6

/-- MIXROUND (R80). -/
def mixRound (m : Mixer) : Mixer := runOps mixTable m

/-- One group of FINALIZE (R83): `XOR x, y`; `SUBROT x, y, k`. -/
def finalGroup (x y : Reg) (k : RotAmount) : List MicroOp := [.xor x y, .subRot x y k]

/-- The six groups of `FINAL_TABLE` that are always in it (R83). -/
def finalTableSix : List MicroOp :=
  finalGroup .c .b Config.finK1 ++ finalGroup .a .c Config.finK2 ++ finalGroup .b .a Config.finK3 ++
  finalGroup .c .b Config.finK4 ++ finalGroup .a .c Config.finK5 ++ finalGroup .b .a Config.finK6

/-- `FINAL_TABLE` of an instance of `FINAL_GROUPS` (R83, R84). -/
def finalTable : FinalGroups → List MicroOp
  | .six   => finalTableSix
  | .seven => finalTableSix ++ finalGroup .c .b Config.finK7

/-- FINALIZE (R83). -/
def finalize (g : FinalGroups) (m : Mixer) : Mixer := runOps (finalTable g) m

/-- HASHWORD step 1 (R88): all three words take `INITVAL`, whatever they held (spec/10_state.md R22). -/
def Mixer.initialise (m : Mixer) : Mixer :=
  ((m.set .a Config.initval).set .b Config.initval).set .c Config.initval

/-- HASHWORD step 2 (R88, R89): for a seed that is not 0, its high half into `A`, its low half into `B`, then MIXROUND
once; for seed 0 nothing at all. -/
def Mixer.addSeed (seed : DWord) (m : Mixer) : Mixer :=
  if seedNZ seed then mixRound { a := m.a + hi32 seed, b := m.b + lo32 seed, c := m.c } else m

/-- HASHWORD step 3 (R88, R91). -/
def Mixer.addKey (key : Word) (m : Mixer) : Mixer := { m with a := m.a + key }

/-- HASHWORD step 5 (R90): `{B, C}`; `A` is discarded. -/
def Mixer.output (m : Mixer) : DWord := cat32 m.b m.c

/-- Steps 1 to 4 of HASHWORD (R88) on the registers. -/
def hashWordRegs (g : FinalGroups) (key : Word) (seed : DWord) (m : Mixer) : Mixer :=
  finalize g (((m.initialise).addSeed seed).addKey key)

/-- HASHWORD (R87, R88) as the function of the key and the seed that it is; the registers it starts from are irrelevant,
since step 1 writes all three. -/
def hashWord (g : FinalGroups) (key : Word) (seed : DWord) : DWord :=
  (hashWordRegs g key seed { a := 0, b := 0, c := 0 }).output

/-- HASHWORD inside a transaction: of `KEY` and `SEEDEFF`, writing `A`, `B`, `C` and `H`. -/
def State.runHashWord (s : State) : State :=
  (s.setMix (hashWordRegs s.cfg.finalGroups s.key s.seedEff s.mix)).setH
    (hashWordRegs s.cfg.finalGroups s.key s.seedEff s.mix).output

end Sys2Proof.Machine
end

