-- ==== Sys2Proof/Machine/Indexer.lean ====
section
/-! DEFINITION. The datapath functions of the PartitionIndexer (spec/41_partition_indexer.md section 1), as functions
and as the register transfers of a transaction. -/

namespace Sys2Proof.Machine

/-- The fold of R100 on the two halves, the high half complemented when the key is negative. -/
def foldHalves (negative : Bool) (lo hi : Word) : Word := if negative then lo ^^^ ~~~hi else lo ^^^ hi

/-- FOLD64 (R100). -/
def fold64 (val : DWord) : Word := foldHalves (neg val) (lo32 val) (hi32 val)

/-- EXTHASH64 (R101). -/
def extHash64 (g : FinalGroups) (val seed : DWord) : DWord := hashWord g (fold64 val) seed

/-- EXTHASH32 (R102): no sign folding. -/
def extHash32 (g : FinalGroups) (val : Word) (seed : DWord) : DWord := hashWord g val seed

/-- A partition count that has passed NPCHECK (R104): `s64` of its bits is at least 1. -/
structure PartitionCount where
  bits : DWord
  ok   : npBad bits = false
deriving DecidableEq, Repr

/-- NPCHECK (R104): the count, or nothing where InvalidPartitionCount is to be raised. -/
def npCheck (nparts : DWord) : Option PartitionCount :=
  if h : npBad nparts = false then some ⟨nparts, h⟩ else none

/-- ADDMAGIC (R105): the carry out of bit 63 is discarded. -/
def addMagic (h magic : DWord) : DWord := h + magic

/-- UMOD (R106, R107): the remainder of the unsigned reading by a count that is at least 1, so that a division by 0
cannot be written down (U4). -/
def umod (folded : DWord) (n : PartitionCount) : DWord := folded % n.bits

/-- EXTHASH64 inside a transaction: `LOHALF`, `HIHALF`, then `KEY`, then HASHWORD. -/
def State.runExtHash64 (val : DWord) (s : State) : State :=
  ((s.setHalves (lo32 val) (hi32 val)).setKey (foldHalves (neg val) (lo32 val) (hi32 val))).runHashWord

/-- EXTHASH32 inside a transaction: `KEY`, then HASHWORD. -/
def State.runExtHash32 (val : Word) (s : State) : State := (s.setKey val).runHashWord

/-- ADDMAGIC inside a transaction: `FOLDED <- H +64 MAGICEFF`. -/
def State.runAddMagic (s : State) : State := s.setFolded (addMagic s.h s.magicEff)

/-- UMOD inside a transaction: `IDX <- umod(FOLDED, NPARTS)`. -/
def State.runUmod (n : PartitionCount) (s : State) : State := s.setIdx (umod s.folded n)

/-- `ERR <- 0; RESULT <- H`. -/
def State.respondHash (s : State) : State := s.respond { err := false, result := s.h }

/-- `ERR <- 0; RESULT <- zext_64(IDX)`; `IDX` has 64 bits. -/
def State.respondIndex (s : State) : State := s.respond { err := false, result := s.idx }

end Sys2Proof.Machine
end

