-- ==== Sys2Proof/Machine/Hashx.lean ====
section
/-! DEFINITION. The hash commands (spec/41_partition_indexer.md R114, R115). -/

namespace Sys2Proof.Machine

/-- HASHX32 (R114). -/
def execHashx32 (q : Operands) (s : State) : Host.Outcome State Fault Refusal :=
  .next (((s.setSeedEff (selectSeed q)).runExtHash32 (key32 q)).respondHash)

/-- HASHX64 (R115). -/
def execHashx64 (q : Operands) (s : State) : Host.Outcome State Fault Refusal :=
  .next (((s.setSeedEff (selectSeed q)).runExtHash64 (key64 q)).respondHash)

end Sys2Proof.Machine
end

