-- ==== Sys2Proof/Machine/Pidx.lean ====
section
/-! DEFINITION. The partition-index commands (spec/41_partition_indexer.md R116, R117). NPCHECK comes first and an error
ends the command (R118). -/

namespace Sys2Proof.Machine

/-- The end of a partition-index command, from `FOLDED` on: UMOD and the response. -/
def State.finishIndex (n : PartitionCount) (s : State) : State := (s.runUmod n).respondIndex

/-- `FOLDED` of PIDX32 (R117, R119): with `MAGIC32` = 1 the magic is selected and added; with `MAGIC32` = 0 `FOLDED` is
`H`, and `MAGIC` and `MG` are ignored. -/
def State.foldMagic32 (q : Operands) (s : State) : State :=
  bif s.cfg.magic32 then (s.setMagicEff (selectMagic q)).runAddMagic else s.setFolded s.h

/-- PIDX32 (R117). -/
def execPidx32 (q : Operands) (s : State) : Host.Outcome State Fault Refusal :=
  match npCheck q.nparts with
  | none   => .next (s.raiseInvalidPartitionCount q.nparts)
  | some n => .next (((((s.setSeedEff (selectSeed q)).runExtHash32 (key32 q))).foldMagic32 q).finishIndex n)

/-- PIDX64 (R116). -/
def execPidx64 (q : Operands) (s : State) : Host.Outcome State Fault Refusal :=
  match npCheck q.nparts with
  | none   => .next (s.raiseInvalidPartitionCount q.nparts)
  | some n =>
    .next (((((s.setSeedEff (selectSeed q)).setMagicEff (selectMagic q)).runExtHash64 (key64 q)).runAddMagic).finishIndex n)

end Sys2Proof.Machine
end

