-- ==== Sys2Proof/Machine/Dispatch.lean ====
section
/-! DEFINITION. One arm per command; the meanings stand in Hashx.lean and Pidx.lean. -/

namespace Sys2Proof.Machine

def exec (i : Instr) (s : State) : Host.Outcome State Fault Refusal :=
  match i with
  | .hashx32 q => Sys2Proof.Machine.execHashx32 q s
  | .hashx64 q => Sys2Proof.Machine.execHashx64 q s
  | .pidx32 q => Sys2Proof.Machine.execPidx32 q s
  | .pidx64 q => Sys2Proof.Machine.execPidx64 q s

end Sys2Proof.Machine
end

