-- ==== Sys2Proof/Machine/Step.lean ====
section
/-! DEFINITION. One rising edge of `CLK` (spec/70_reset_and_hazards.md R150 to R158). -/

namespace Sys2Proof.Machine

/-- One rising edge of `CLK` and the cycle that follows it: with `RST` = 1 the block is reset (R151); else with
`REQ_VALID` = 1 the request on the ports is accepted, decoded and its command performed (R157); else nothing is
accepted; and the cycle that follows presents the oldest response due (R158). -/
def step (s : State) : Host.Outcome State Fault Refusal :=
  if s.edge.rst then .next s.resetEdge
  else if s.edge.reqValid then
    match exec (decodeRequest s.edge.req) s with
    | .next t    => .next t.endCycle
    | .fault f   => .fault f
    | .refused r => .refused r
  else .next s.bubble.endCycle

/-- `s` with a request, made of an opcode-table word, driven by the host at the next edge: `RST` = 0 and
`REQ_VALID` = 1, so that the next step accepts and performs it. It takes the place of what the host would have driven
at that edge (log entry 9). -/
def State.withFetchWord (s : State) (_nbits w : Nat) : State :=
  { s with edges := { rst := false, reqValid := true, req := tableRequest w } :: s.edges.tail }

end Sys2Proof.Machine
end

