-- ==== Sys2Proof/Machine/Response.lean ====
section
/-! DEFINITION. The response of a transaction as the pure function of its request and of the parameters that the spec
says it is (spec/00_scope.md R16, spec/10_state.md R20). The commands of `exec` produce it by register transfers; that the
two agree is a statement about the model. -/

namespace Sys2Proof.Machine

/-- `FOLDED` of PIDX64 (spec/41_partition_indexer.md R116). -/
def foldedOf64 (p : Params) (q : Operands) : DWord :=
  addMagic (extHash64 p.finalGroups (key64 q) (selectSeed q)) (selectMagic q)

/-- `FOLDED` of PIDX32 (R117), for either instance of `MAGIC32` (R119). -/
def foldedOf32 (p : Params) (q : Operands) : DWord :=
  bif p.magic32 then addMagic (extHash32 p.finalGroups (key32 q) (selectSeed q)) (selectMagic q)
  else extHash32 p.finalGroups (key32 q) (selectSeed q)

/-- The response of a partition-index command from its count and its `FOLDED` (R104, R106, R131). -/
def indexResponse (nparts folded : DWord) : Response :=
  match npCheck nparts with
  | none   => { err := true, result := nparts }
  | some n => { err := false, result := umod folded n }

/-- The response of a command. -/
def responseOf (p : Params) : Instr → Response
  | .hashx32 q => { err := false, result := extHash32 p.finalGroups (key32 q) (selectSeed q) }
  | .hashx64 q => { err := false, result := extHash64 p.finalGroups (key64 q) (selectSeed q) }
  | .pidx32 q  => indexResponse q.nparts (foldedOf32 p q)
  | .pidx64 q  => indexResponse q.nparts (foldedOf64 p q)

end Sys2Proof.Machine
end

