-- ==== Sys2Proof/Machine/Text.lean ====
section
/-! DEFINITION. The textual form of a request and of a response (spec/30_encoding.md R60) and its translation to the
request ports (R61). What R60 leaves open about spacing, signs and digits is log entry 16; that a line which R60 does not
admit is refused, and under which name, is log entry 20. -/

namespace Sys2Proof.Machine

/-- Why a line is no request of R60; the names are the model's (log entry 20). -/
inductive TextError where
  | mnemonic
  | valueLiteral
  | valueRange
  | npartsMissing
  | npartsNotAllowed
  | npartsLiteral
  | npartsRange
  | seedLiteral
  | seedRange
  | magicLiteral
  | magicRange
  | extraField
deriving DecidableEq, Repr

/-- `VAL` of a value literal (R61): its two's-complement pattern, sign-extended to 64 bits for a 32-bit key. -/
def TextRequest.valBits (wide : Bool) : ValueLit → DWord
  | .dec v => if wide then BitVec.ofInt 64 v else sext64 (BitVec.ofInt 32 v)
  | .hex v => if wide then BitVec.ofNat 64 v else sext64 (BitVec.ofNat 32 v)

/-- The request ports of a textual request (R61). -/
def assemble (t : TextRequest) : Request :=
  { cmd    := cmdOf t.magic.isSome t.seed.isSome t.mnemonic.index t.mnemonic.wide
    val    := TextRequest.valBits t.mnemonic.wide t.value
    nparts := (t.nparts.map (BitVec.ofInt 64)).getD 0
    seed   := (t.seed.map (BitVec.ofNat 64)).getD 0
    magic  := (t.magic.map (BitVec.ofNat 64)).getD 0 }

/-- The request ports of a textual request that has been read, its ranges (R60) checked in the order of the fields and the
first violation refused by name (log entry 20). -/
def assembleChecked (t : TextRequest) : Except TextError Request :=
  if !t.valueOk then .error .valueRange
  else if !t.npartsOk then
    .error (match t.nparts with
      | none   => .npartsMissing
      | some _ => if t.mnemonic.index then .npartsRange else .npartsNotAllowed)
  else if !t.seedOk then .error .seedRange
  else if !t.magicOk then .error .magicRange
  else .ok (assemble t)

/-- The fields of a line between the occurrences of a separator. -/
def splitFields (sep : Char) : List Char → List (List Char)
  | []      => [[]]
  | c :: cs =>
    if c = sep then [] :: splitFields sep cs
    else
      match splitFields sep cs with
      | []      => [[c]]
      | w :: ws => (c :: w) :: ws

/-- Without the spaces at either end. -/
def trimSpaces (cs : List Char) : List Char :=
  ((cs.dropWhile (· = ' ')).reverse.dropWhile (· = ' ')).reverse

/-- The value of a digit in a base of at most 16. -/
def digitValue (base : Nat) (c : Char) : Option Nat :=
  let n := c.toNat
  let d := if 48 ≤ n ∧ n ≤ 57 then some (n - 48)
    else if 65 ≤ n ∧ n ≤ 70 then some (n - 55)
    else if 97 ≤ n ∧ n ≤ 102 then some (n - 87)
    else none
  d.filter (· < base)

/-- The digits of a number, most significant first, onto what was read before them. -/
def readDigits (base : Nat) : Nat → List Char → Option Nat
  | acc, []      => some acc
  | acc, c :: cs =>
    match digitValue base c with
    | some d => readDigits base (base * acc + d) cs
    | none   => none

/-- A number of at least one digit. -/
def readNat (base : Nat) (cs : List Char) : Option Nat := if cs.isEmpty then none else readDigits base 0 cs

/-- A signed decimal literal. -/
def readInt : List Char → Option Int
  | '-' :: cs => (readNat 10 cs).map (fun n => -(n : Int))
  | cs        => (readNat 10 cs).map (fun n => (n : Int))

/-- An unsigned literal: `0x` hexadecimal, or decimal. -/
def readUnsigned : List Char → Option Nat
  | '0' :: 'x' :: cs => readNat 16 cs
  | cs               => readNat 10 cs

/-- A value literal: `0x` hexadecimal, or signed decimal. -/
def readValue : List Char → Option ValueLit
  | '0' :: 'x' :: cs => (readNat 16 cs).map .hex
  | cs               => (readInt cs).map .dec

/-- The mnemonic of R60. -/
def readMnemonic (cs : List Char) : Option Mnemonic :=
  if cs = "HASHX32".toList then some .hashx32
  else if cs = "HASHX64".toList then some .hashx64
  else if cs = "PIDX32".toList then some .pidx32
  else if cs = "PIDX64".toList then some .pidx64
  else none

/-- What follows a label such as `seed=`, if the field begins with it. -/
def afterLabel (label field : List Char) : Option (List Char) :=
  if field.take label.length = label then some (field.drop label.length) else none

/-- The optional field `magic=<u64>` and the end of the line. -/
def readMagic (t : TextRequest) : List (List Char) → Except TextError TextRequest
  | []      => .ok t
  | f :: fs =>
    match afterLabel "magic=".toList f with
    | none   => .error .extraField
    | some d =>
      match readUnsigned d with
      | none   => .error .magicLiteral
      | some v => if fs.isEmpty then .ok { t with magic := some v } else .error .extraField

/-- The optional field `seed=<u64>` and what follows it. -/
def readSeed (t : TextRequest) : List (List Char) → Except TextError TextRequest
  | []      => .ok t
  | f :: fs =>
    match afterLabel "seed=".toList f with
    | none   => readMagic t (f :: fs)
    | some d =>
      match readUnsigned d with
      | none   => .error .seedLiteral
      | some v => readMagic { t with seed := some v } fs

/-- The field `nparts`, mandatory for PIDX and absent otherwise, and what follows it. -/
def readNparts (t : TextRequest) (fs : List (List Char)) : Except TextError TextRequest :=
  if t.mnemonic.index then
    match fs with
    | []      => .error .npartsMissing
    | f :: fs =>
      match readInt f with
      | none   => .error .npartsLiteral
      | some n => readSeed { t with nparts := some n } fs
  else readSeed t fs

/-- One line of R60: a mnemonic, spaces, and the fields between commas. -/
def readRequest (line : List Char) : Except TextError TextRequest :=
  let l := trimSpaces line
  match readMnemonic (l.takeWhile (· ≠ ' ')) with
  | none   => .error .mnemonic
  | some m =>
    match (splitFields ',' (l.dropWhile (· ≠ ' '))).map trimSpaces with
    | []      => .error .valueLiteral
    | v :: fs =>
      match readValue v with
      | none   => .error .valueLiteral
      | some v => readNparts { mnemonic := m, value := v, nparts := none, seed := none, magic := none } fs

/-- A line of R60 to the request ports, R61. The whole line is read before any range is checked, so that every error of
form, the first in the line, is named before any error of range: an out-of-range value in front of a malformed seed is
`seedLiteral`. R60 does not say which of several violations is named; this order is the model's choice (log entry 20). -/
def requestOfText (line : String) : Except TextError Request :=
  match readRequest line.toList with
  | .ok t    => assembleChecked t
  | .error e => .error e

/-- A hexadecimal digit. -/
def hexDigit (n : Nat) : Char := if n < 10 then Char.ofNat (48 + n) else Char.ofNat (55 + n)

/-- A 64-bit value as `0x` and sixteen hexadecimal digits. -/
def hexText (v : DWord) : List Char :=
  '0' :: 'x' :: (List.range 16).map (fun i => hexDigit (v.toNat / 16 ^ (15 - i) % 16))

/-- A signed number in decimal. -/
def decText (n : Int) : List Char :=
  if n < 0 then '-' :: Nat.toDigits 10 n.natAbs else Nat.toDigits 10 n.natAbs

/-- The response in the textual form of R60; an index is written in decimal, a hash in hexadecimal, as
spec/95_test_vectors.md writes them. -/
def textOfResponse (index : Bool) (r : Response) : String :=
  String.ofList
    (if r.err then "-> ERR InvalidPartitionCount(".toList ++ decText r.result.toInt ++ [')']
     else "-> OK ".toList ++ (if index then Nat.toDigits 10 r.result.toNat else hexText r.result))

end Sys2Proof.Machine
end

