-- ==== Sys2Proof/Safety.lean ====
section
/-! DEFINITION. What claims about runs are stated in: the invariant of the machine and the outputs of a run. -/

namespace Sys2Proof.Machine

/-- A response that is an error carries a count that is not positive (spec/60_exceptions.md R131). -/
def Response.Consistent (r : Response) : Prop := r.err = true → r.result.toInt ≤ 0

/-- The invariant: there are `LAT` stages, of which up to `LAT` hold a transaction in flight
(spec/70_reset_and_hazards.md R156, R158), and every response in flight or presented is consistent. -/
def State.Inv (s : State) : Prop :=
  s.pipe.length = s.cfg.lat ∧
  (∀ r : Response, some r ∈ s.pipe → r.Consistent) ∧
  (∀ r : Response, s.out = some r → r.Consistent)

/-- The transactions in flight (R156), oldest first. -/
def State.inFlight (s : State) : List Response := s.pipe.filterMap id

/-- What the response ports present in each of the `n` cycles that follow. -/
def outputs : Nat → State → List (Option Response)
  | 0, _     => []
  | n + 1, s =>
    match step s with
    | .next t    => t.out :: outputs n t
    | .fault _   => []
    | .refused _ => []

/-- The state after `n` edges, if no step stops. -/
def stateAfter : Nat → State → Option State
  | 0, s     => some s
  | n + 1, s =>
    match step s with
    | .next t    => stateAfter n t
    | .fault _   => none
    | .refused _ => none

/-- The response that a command of the machine enters behind the transactions in flight, if it completes. -/
def answer (i : Instr) (s : State) : Option Response :=
  match exec i s with
  | .next t    => t.pipe.getLast?.join
  | .fault _   => none
  | .refused _ => none

/-- Two edges that the block cannot tell apart (R151, R157): with `RST` = 1 nothing else counts, and the request ports
count only where a request is accepted. -/
def Edge.Alike (e f : Edge) : Prop :=
  e.rst = f.rst ∧ (e.rst = false → e.reqValid = f.reqValid ∧ (e.reqValid = true → e.req = f.req))

/-- What an edge without reset lets into the block: the response of the request it carries, if it carries one
(R157, R16). -/
def enters (p : Params) (e : Edge) : Option Response :=
  if e.reqValid then some (responseOf p (decodeRequest e.req)) else none

/-- The requests accepted at the edges of a run without reset, in order (R157). -/
def accepted (es : List Edge) : List Request := (es.filter (·.reqValid)).map (·.req)

/-- No edge of the list asserts `RST`. -/
def NoReset (es : List Edge) : Prop := ∀ e ∈ es, e.rst = false

end Sys2Proof.Machine
end

