-- ==== Sys2Proof/Certificates/Slice0/Obligations.lean ====
section
/-! DEFINITION. The statements for the provers, each from the numbered rules of spec/. CORE has no memory (R40) and no
program counter (R29), so no statement speaks of either. -/

open Sys2Proof Sys2Proof.Machine

/-! ### Encoding -/

/-- R50 to R54: no bit of a command is lost by encoding, at any value of any operand. -/
def Obligations.DecodeOfEncodeIsIdentity : Prop :=
  ∀ i : Instr, i.wf = true → decode (encode i) = i ∧ decodeRequest (encodeRequest i) = i

/-- Every one of the 2^260 request words decodes, and encoding what it decodes to gives the word back. The places of the
fields are R50's; that a decoded command keeps the operand fields it ignores, so that no bit is lost, is the model's choice
(log entry 14). -/
def Obligations.EncodeOfDecodeIsIdentity : Prop :=
  ∀ w : ReqWord, encode (decode w) = w

/-- R50: the place of every bit of `REQ` and of `RSP`, and that a word is its fields and nothing else. -/
def Obligations.RequestAndResponseBitPositions : Prop :=
  (∀ (r : Request) (j : Nat), j < 260 →
    r.pack.getLsbD j =
      if j < 64 then r.magic.getLsbD j
      else if j < 128 then r.seed.getLsbD (j - 64)
      else if j < 192 then r.nparts.getLsbD (j - 128)
      else if j < 256 then r.val.getLsbD (j - 192)
      else r.cmd.getLsbD (j - 256)) ∧
  (∀ w : ReqWord, (Request.unpack w).pack = w) ∧
  (∀ (r : Response) (j : Nat), j < 65 →
    r.pack.getLsbD j = if j < 64 then r.result.getLsbD j else r.err) ∧
  (∀ w : RspWord, (Response.unpack w).pack = w)

/-- R51, R53: `CMD[1:0]` alone selects the command, and `CMD[2]`, `CMD[3]` are its `SD` and `MG`. -/
def Obligations.CommandFieldsSelectCommand : Prop :=
  ∀ r : Request,
    decodeRequest r =
      (let q : Operands :=
        { mg := r.cmd.getLsbD 3, sd := r.cmd.getLsbD 2, val := r.val, nparts := r.nparts, seed := r.seed, magic := r.magic }
      if r.cmd &&& 0x3 = 0x0 then .hashx32 q
      else if r.cmd &&& 0x3 = 0x1 then .hashx64 q
      else if r.cmd &&& 0x3 = 0x2 then .pidx32 q
      else .pidx64 q)

/-- R54: every request completes, and on a hash command `MG` is without effect. -/
def Obligations.EveryEncodingIsLegal : Prop :=
  ∀ (r : Request) (s : State),
    (∃ t, exec (decodeRequest r) s = .next t) ∧
    (r.cmd.getLsbD 1 = false →
      exec (decodeRequest r) s = exec (decodeRequest { r with cmd := r.cmd &&& 0x7 }) s)

/-- R50, R53: five request words written out in spec/95_test_vectors.md section 4 decode to the commands they stand
for. -/
def Obligations.WrittenRequestWordsDecode : Prop :=
  decode 0x30000000000000001000000000000001000000000000000000000000000000000
    = .pidx64 { mg := false, sd := false, val := 1, nparts := 16, seed := 0, magic := 0 } ∧
  decode 0x20000000000000001800000000000000000000000000000000000000000000000
    = .pidx32 { mg := false, sd := false, val := 1, nparts := 0x8000000000000000, seed := 0, magic := 0 } ∧
  decode 0x50000000000000001000000000000000000000001000000000000000000000000
    = .hashx64 { mg := false, sd := true, val := 1, nparts := 0, seed := 0x0000000100000000, magic := 0 } ∧
  decode 0x0DEADBEEF00000001FFFFFFFFFFFFFFFF00000000000012340000000000005678
    = .hashx32 { mg := false, sd := false, val := 0xDEADBEEF00000001, nparts := 0xFFFFFFFFFFFFFFFF, seed := 0x1234,
                 magic := 0x5678 } ∧
  decode 0xB0000000000083ECC00000000000003E800000000000000000000000000000000
    = .pidx64 { mg := true, sd := false, val := 540364, nparts := 1000, seed := 0, magic := 0 }

/-- R64: an opcode-table word is read over `CMD[3:0]` under the mask 0x3, its bits 2 and 3 are `SD` and `MG`, and the step
after placing it performs the command that the decoder reads from it. That the word stands in the low four bits and every
operand port carries 0 is the model's choice (log entry 10), as is how it is placed (log entry 9). -/
def Obligations.OpcodeTableWordsDecodeAndRun : Prop :=
  (∀ nbits w : Nat,
    let q : Operands := (tableRequest w).operands
    q = { mg := w.testBit 3, sd := w.testBit 2, val := 0, nparts := 0, seed := 0, magic := 0 } ∧
    decodeTableWord nbits w =
      some (if w % 4 = 0 then .hashx32 q else if w % 4 = 1 then .hashx64 q
        else if w % 4 = 2 then .pidx32 q else .pidx64 q)) ∧
  (∀ (nbits w : Nat) (s : State), ∃ i t,
    decodeTableWord nbits w = some i ∧ exec i (s.withFetchWord nbits w) = .next t ∧
    step (s.withFetchWord nbits w) = .next t.endCycle)

/-! ### The Mixer -/

/-- R71: ROTL32 as the two shifts, bit by bit, and its corner cases. -/
def Obligations.RotationMovesEveryBit : Prop :=
  (∀ (v : Word) (k : RotAmount),
    rotl32 v k = (v <<< k.val) ||| (v >>> (32 - k.val)) ∧
    ∀ j < 32, (rotl32 v k).getLsbD j = v.getLsbD ((j + 32 - k.val) % 32)) ∧
  (∀ k : RotAmount, rotl32 0 k = 0 ∧ rotl32 0xFFFFFFFF k = 0xFFFFFFFF) ∧
  rotl32Checked 0x80000000 1 = .ok 0x00000001 ∧
  rotl32Checked 0x00000001 31 = .ok 0x80000000 ∧
  rotl32Checked 0x12345678 4 = .ok 0x23456781

/-- R72: the amounts 1..31 rotate, every other amount is refused by name. -/
def Obligations.RotationAmountsOutsideDomainAreRefused : Prop :=
  ∀ (v : Word) (k : Nat),
    if 1 ≤ k ∧ k ≤ 31 then rotl32Checked v k = .ok (v.rotateLeft k)
    else rotl32Checked v k = .error (.rotationAmount k)

/-- R73 to R77: each micro-operation writes `x` as its rule says, modulo 2^32, and no other register. -/
def Obligations.MicroOperationsWriteOneRegister : Prop :=
  (∀ (m : Mixer) (x y r : Reg) (k : RotAmount),
    (((runOp m (.sub x y)).get x).toNat = ((m.get x).toNat + 2 ^ 32 - (m.get y).toNat) % 2 ^ 32 ∧
      (r = x ∨ (runOp m (.sub x y)).get r = m.get r)) ∧
    (((runOp m (.add x y)).get x).toNat = ((m.get x).toNat + (m.get y).toNat) % 2 ^ 32 ∧
      (r = x ∨ (runOp m (.add x y)).get r = m.get r)) ∧
    ((runOp m (.xorRot x y k)).get x = m.get x ^^^ (m.get y).rotateLeft k.val ∧
      (r = x ∨ (runOp m (.xorRot x y k)).get r = m.get r)) ∧
    ((runOp m (.xor x y)).get x = m.get x ^^^ m.get y ∧
      (r = x ∨ (runOp m (.xor x y)).get r = m.get r)) ∧
    (((runOp m (.subRot x y k)).get x).toNat =
        ((m.get x).toNat + 2 ^ 32 - ((m.get y).rotateLeft k.val).toNat) % 2 ^ 32 ∧
      (r = x ∨ (runOp m (.subRot x y k)).get r = m.get r))) ∧
  runOp ⟨0x00000000, 0x00000001, 0⟩ (.sub .a .b) = ⟨0xFFFFFFFF, 0x00000001, 0⟩ ∧
  runOp ⟨0xFFFFFFFF, 0x00000002, 0⟩ (.add .a .b) = ⟨0x00000001, 0x00000002, 0⟩ ∧
  runOp ⟨0x7A5B2236, 0x9E735654, 0⟩ (.xorRot .a .b Config.mixK1) = ⟨0x9D6E477F, 0x9E735654, 0⟩ ∧
  runOp ⟨0x9E735654, 0x9E735654, 0⟩ (.xor .a .b) = ⟨0x00000000, 0x9E735654, 0⟩ ∧
  runOp ⟨0x00000000, 0x9E735654, 0⟩ (.subRot .a .b Config.finK1) = ⟨0x2A6AD864, 0x9E735654, 0⟩

/-- R80: MIXROUND is the 18 assignments of its table, in order, and the worked example. Which operation each step performs
on which words is the spec's own, from general knowledge (G2; log entry 6). -/
def Obligations.MixRoundIsEighteenAssignments : Prop :=
  (∀ a b c : Word,
    mixRound ⟨a, b, c⟩ =
      (let a := a - c
       let a := a ^^^ c.rotateLeft 4
       let c := c + b
       let b := b - a
       let b := b ^^^ a.rotateLeft 6
       let a := a + c
       let c := c - b
       let c := c ^^^ b.rotateLeft 8
       let b := b + a
       let a := a - c
       let a := a ^^^ c.rotateLeft 16
       let c := c + b
       let b := b - a
       let b := b ^^^ a.rotateLeft 19
       let a := a + c
       let c := c - b
       let c := c ^^^ b.rotateLeft 4
       let b := b + a
       ⟨a, b, c⟩)) ∧
  mixTable.length = 18 ∧
  mixRound ⟨0x18CE788A, 0x180A3351, 0x9E735654⟩ = ⟨0xE933553E, 0xC5DA07A8, 0xFDFD95ED⟩

/-- R83, R84: FINALIZE with six groups is twelve assignments, with seven two more, and the worked example. The two
operations of a group, the register cycle and the seventh group are the spec's own, from general knowledge (G3, G4; log
entries 5 and 6). -/
def Obligations.FinalizeIsItsAssignments : Prop :=
  (∀ a b c : Word,
    finalize .six ⟨a, b, c⟩ =
      (let c := c ^^^ b
       let c := c - b.rotateLeft 14
       let a := a ^^^ c
       let a := a - c.rotateLeft 11
       let b := b ^^^ a
       let b := b - a.rotateLeft 25
       let c := c ^^^ b
       let c := c - b.rotateLeft 16
       let a := a ^^^ c
       let a := a - c.rotateLeft 4
       let b := b ^^^ a
       let b := b - a.rotateLeft 14
       ⟨a, b, c⟩)) ∧
  (∀ m : Mixer,
    finalize .seven m =
      (let n := finalize .six m
       let c := n.c ^^^ n.b
       let c := c - n.b.rotateLeft 24
       ⟨n.a, n.b, c⟩)) ∧
  (finalTable .six).length = 2 * 6 ∧ (finalTable .seven).length = 2 * 7 ∧
  finalize .six ⟨0x9E735655, 0x9E735654, 0x9E735654⟩ = ⟨0xDE242CFC, 0xCD0F69C4, 0x9E4F4F6B⟩ ∧
  finalize .seven ⟨0x9E735655, 0x9E735654, 0x9E735654⟩ = ⟨0xDE242CFC, 0xCD0F69C4, 0x8E731746⟩

/-- R81, R85: a micro-operation on two different registers can be undone. -/
def Obligations.MicroOperationsAreInvertible : Prop :=
  ∀ op : MicroOp, op.wf = true → Function.Bijective (fun m => runOp m op)

/-- R81: MIXROUND fixes the zero state and is a bijection on the 96-bit state. -/
def Obligations.MixRoundIsBijective : Prop :=
  mixRound ⟨0, 0, 0⟩ = ⟨0, 0, 0⟩ ∧ Function.Bijective mixRound

/-- R85: so is FINALIZE, in both instances. -/
def Obligations.FinalizeIsBijective : Prop :=
  ∀ g : FinalGroups, finalize g ⟨0, 0, 0⟩ = ⟨0, 0, 0⟩ ∧ Function.Bijective (finalize g)

/-- R84: the two instances of `FINAL_GROUPS` differ in `C` only, hence in `RESULT[31:0]` of a hash only. -/
def Obligations.FinalGroupsTouchOnlyLowHash : Prop :=
  (∀ m : Mixer, (finalize .seven m).a = (finalize .six m).a ∧ (finalize .seven m).b = (finalize .six m).b) ∧
  (∀ (key : Word) (seed : DWord),
    (hashWord .seven key seed).extractLsb' 32 32 = (hashWord .six key seed).extractLsb' 32 32)

/-- R86: `INITVAL` is the sum of its three addends, which does not overflow, and all three words start from it. The addends
are the spec's own, from general knowledge (G1; log entry 6). -/
def Obligations.InitialValueIsSumOfAddends : Prop :=
  Config.initval.toNat = 0x9E3779B9 + 4 + 3923095 ∧ Config.initval = 0x9E735654 ∧
  ∀ m : Mixer, m.initialise = ⟨0x9E735654, 0x9E735654, 0x9E735654⟩

/-- R88: HASHWORD is its five steps, and the worked example with the default seed in both instances. -/
def Obligations.HashWordIsFiveSteps : Prop :=
  (∀ (g : FinalGroups) (key : Word) (seed : DWord) (old : Mixer),
    (let i : Word := Config.initval
     let m : Mixer :=
       if seed ≠ 0 then mixRound ⟨i + seed.extractLsb' 32 32, i + seed.extractLsb' 0 32, i⟩ else ⟨i, i, i⟩
     let n := finalize g ⟨m.a + key, m.b, m.c⟩
     hashWordRegs g key seed old = n ∧ hashWord g key seed = n.b ++ n.c)) ∧
  Config.initval + 0x7A5B2236 = 0x18CE788A ∧ Config.initval + 0x7996DCFD = 0x180A3351 ∧
  mixRound ⟨0x18CE788A, 0x180A3351, 0x9E735654⟩ = ⟨0xE933553E, 0xC5DA07A8, 0xFDFD95ED⟩ ∧
  finalize .six ⟨0xE933553F, 0xC5DA07A8, 0xFDFD95ED⟩ = ⟨0x568C468F, 0x52D62105, 0xD4A19DF3⟩ ∧
  finalize .seven ⟨0xE933553F, 0xC5DA07A8, 0xFDFD95ED⟩ = ⟨0x568C468F, 0x52D62105, 0x8124E6D5⟩ ∧
  hashWord .six 1 0x7A5B22367996DCFD = 0x52D62105D4A19DF3 ∧
  hashWord .seven 1 0x7A5B22367996DCFD = 0x52D621058124E6D5

/-- R89: seed 0 skips step 2 whole, MIXROUND included; a seed with one half 0 does not; and mixing for seed 0 would give
another result. R89 gives no number: the two here are derived vectors of spec/95_test_vectors.md section 2.6 and rest on
`INITVAL` and the step tables, which are from general knowledge (G1 to G3, log entry 6). -/
def Obligations.ZeroSeedSkipsMixRound : Prop :=
  (∀ (g : FinalGroups) (key : Word),
    hashWord g key 0 = (finalize g ⟨Config.initval + key, Config.initval, Config.initval⟩).output) ∧
  (∀ (g : FinalGroups) (key : Word) (half : Word), half ≠ 0 →
    (let mixed := mixRound ⟨Config.initval, Config.initval + half, Config.initval⟩
     hashWord g key ((0 : Word) ++ half) = (finalize g ⟨mixed.a + key, mixed.b, mixed.c⟩).output) ∧
    (let mixed := mixRound ⟨Config.initval + half, Config.initval, Config.initval⟩
     hashWord g key (half ++ (0 : Word)) = (finalize g ⟨mixed.a + key, mixed.b, mixed.c⟩).output)) ∧
  hashWord .six 1 0 = 0xCD0F69C49E4F4F6B ∧
  (let mixed := mixRound ⟨Config.initval, Config.initval, Config.initval⟩
   (finalize .six ⟨mixed.a + 1, mixed.b, mixed.c⟩).output = 0x9851A1B0A239C72F)

/-- R22, R90: what the registers held before has no effect on HASHWORD. -/
def Obligations.HashWordForgetsOldRegisters : Prop :=
  ∀ (g : FinalGroups) (key : Word) (seed : DWord) (m n : Mixer),
    hashWordRegs g key seed m = hashWordRegs g key seed n

/-- R92: for a fixed seed the three words after FINALIZE determine the key. -/
def Obligations.KeyToRegistersIsInjective : Prop :=
  ∀ (g : FinalGroups) (seed : DWord) (m : Mixer), Function.Injective (fun key => hashWordRegs g key seed m)

/-! ### The PartitionIndexer's functions -/

/-- R100: FOLD64 by the sign of the key, what it is on the 32-bit range, that it is 2^32-to-one, and its examples. -/
def Obligations.FoldComplementsHighHalfOfNegativeKeys : Prop :=
  (∀ val : DWord,
    fold64 val =
      if val.toInt < 0 then val.extractLsb' 0 32 ^^^ ~~~(val.extractLsb' 32 32)
      else val.extractLsb' 0 32 ^^^ val.extractLsb' 32 32) ∧
  (∀ val : DWord, -(2 ^ 31 : Int) ≤ val.toInt → val.toInt ≤ 2 ^ 31 - 1 → fold64 val = val.extractLsb' 0 32) ∧
  (∀ hi w : Word, ∃ lo : Word, fold64 (hi ++ lo) = w ∧ ∀ lo' : Word, fold64 (hi ++ lo') = w → lo' = lo) ∧
  fold64 0x7FFFFFFFFFFFFFFF = 0x80000000 ∧ fold64 0x8000000000000000 = 0x7FFFFFFF ∧
  fold64 0x0000000100000000 = 0x00000001 ∧ fold64 0x123456789ABCDEF0 = 0x88888888

/-- R103: a number that fits in 32 bits has one extended hash, whichever width it is presented in. -/
def Obligations.ExtendedHashesAgreeOnSignExtension : Prop :=
  ∀ (g : FinalGroups) (v : Word) (seed : DWord), extHash64 g (v.signExtend 64) seed = extHash32 g v seed

/-- R104, R57: NPCHECK rejects exactly the counts whose signed reading is not positive, and passes the others
unchanged. -/
def Obligations.CountCheckRejectsNonPositive : Prop :=
  (∀ n : DWord, npCheck n = none ↔ n.toInt ≤ 0) ∧
  (∀ n : DWord, npCheck n = none ↔ n.getLsbD 63 = true ∨ n = 0) ∧
  (∀ n : DWord, 0 < n.toInt → ∃ c, npCheck n = some c ∧ c.bits = n ∧ n.toInt = n.toNat) ∧
  npCheck 0 = none ∧ npCheck 0xFFFFFFFFFFFFFFFF = none ∧ npCheck 0x8000000000000000 = none ∧
  (npCheck 1).isSome ∧ (npCheck 0x7FFFFFFFFFFFFFFF).isSome

/-- R105: ADDMAGIC wraps, with its corner cases and examples. -/
def Obligations.MagicAdditionWraps : Prop :=
  (∀ h magic : DWord, (addMagic h magic).toNat = (h.toNat + magic.toNat) % 2 ^ 64) ∧
  (∀ h : DWord, addMagic h 0 = h ∧ addMagic h 0xFFFFFFFFFFFFFFFF = h - 1) ∧
  addMagic 0xBA5FC748E84FA1C1 0x4992394D24F64163 = 0x03F200960D45E324 ∧
  addMagic 0x52D62105D4A19DF3 0x4992394D24F64163 = 0x9C685A52F997DF56

/-- R106: UMOD is the remainder of the unsigned reading and lies below the count. -/
def Obligations.RemainderIsUnsignedAndInRange : Prop :=
  ∀ (folded : DWord) (c : PartitionCount),
    (umod folded c).toNat = folded.toNat % c.bits.toNat ∧
    0 ≤ (umod folded c).toInt ∧ (umod folded c).toInt ≤ c.bits.toInt - 1

/-- R107: for a count 2^k the index is the low k bits; for count 1 it is 0; and for other counts it is not a signed
remainder (the rule's example). -/
def Obligations.RemainderByPowerOfTwoIsLowBits : Prop :=
  (∀ (folded : DWord) (c : PartitionCount) (k : Nat), 1 ≤ k → k ≤ 62 → c.bits.toNat = 2 ^ k →
    ∀ j < 64, (umod folded c).getLsbD j = (decide (j < k) && folded.getLsbD j)) ∧
  (∀ (folded : DWord) (c : PartitionCount), c.bits = 1 → umod folded c = 0) ∧
  (npCheck 3).map (umod 0x9C685A52F997DF56) = some 1 ∧
  (npCheck 7).map (umod 0x9C685A52F997DF56) = some 0 ∧
  (0x9C685A52F997DF56 : DWord).toInt % 3 = 0 ∧ (0x9C685A52F997DF56 : DWord).toInt % 7 = 5

/-! ### The commands -/

/-- R114: HASHX32 completes in every state on every operand; what it computes, and its examples. -/
def Obligations.HashX32Completes : Prop :=
  (∀ (q : Operands) (s : State),
    (encodeRequest (.hashx32 q)).cmd.extractLsb' 0 2 = 0b00 ∧
    ∃ t, exec (.hashx32 q) s = .next t ∧
      t.seedEff = (if q.sd then q.seed else 0x7A5B22367996DCFD) ∧
      t.key = q.val.extractLsb' 0 32 ∧
      t.h = hashWord s.cfg.finalGroups t.key t.seedEff ∧
      t.pipe = s.pipe ++ [some { err := false, result := t.h }]) ∧
  hashWord .six 1 0x7A5B22367996DCFD = 0x52D62105D4A19DF3 ∧
  hashWord .seven 1 0x7A5B22367996DCFD = 0x52D621058124E6D5 ∧
  hashWord .six 1 0 = 0xCD0F69C49E4F4F6B ∧ hashWord .seven 1 0 = 0xCD0F69C48E731746

/-- R115: HASHX64 completes in every state on every operand; what it computes, its corner cases and its example. -/
def Obligations.HashX64Completes : Prop :=
  (∀ (q : Operands) (s : State),
    (encodeRequest (.hashx64 q)).cmd.extractLsb' 0 2 = 0b01 ∧
    ∃ t, exec (.hashx64 q) s = .next t ∧
      t.seedEff = (if q.sd then q.seed else 0x7A5B22367996DCFD) ∧
      t.key = fold64 q.val ∧
      t.h = hashWord s.cfg.finalGroups t.key t.seedEff ∧
      t.pipe = s.pipe ++ [some { err := false, result := t.h }]) ∧
  (∀ (q : Operands) (s : State),
    answer (.hashx64 { q with val := 0x7FFFFFFFFFFFFFFF }) s = answer (.hashx32 { q with val := 0xFFFFFFFF80000000 }) s ∧
    answer (.hashx64 { q with val := 0x8000000000000000 }) s = answer (.hashx32 { q with val := 0x000000007FFFFFFF }) s) ∧
  extHash64 .six 0xFFFFFFFFFFFFFFFF 0x7A5B22367996DCFD = 0xBA5FC748E84FA1C1 ∧
  extHash64 .seven 0xFFFFFFFFFFFFFFFF 0x7A5B22367996DCFD = 0xBA5FC748095606C2

/-- R116: PIDX64 completes with its index for every positive count, raises the exception for every other, and its
example. -/
def Obligations.PartitionIndex64Completes : Prop :=
  (∀ (q : Operands) (s : State), 0 < q.nparts.toInt →
    ∃ t, exec (.pidx64 q) s = .next t ∧
      t.seedEff = (if q.sd then q.seed else 0x7A5B22367996DCFD) ∧
      t.magicEff = (if q.mg then q.magic else 0x4992394D24F64163) ∧
      t.key = fold64 q.val ∧
      t.h = hashWord s.cfg.finalGroups t.key t.seedEff ∧
      t.folded = t.h + t.magicEff ∧
      t.idx.toNat = t.folded.toNat % q.nparts.toNat ∧
      t.pipe = s.pipe ++ [some { err := false, result := t.idx }]) ∧
  (∀ (q : Operands) (s : State), q.nparts.toInt ≤ 0 →
    exec (.pidx64 q) s = .next { s with pipe := s.pipe ++ [some { err := true, result := q.nparts }] }) ∧
  (∀ q : Operands, (encodeRequest (.pidx64 q)).cmd.extractLsb' 0 2 = 0b11) ∧
  (let q : Operands := { mg := false, sd := false, val := 1, nparts := 16, seed := 0, magic := 0 }
   responseOf ⟨.six, true, 0⟩ (.pidx64 q) = { err := false, result := 6 } ∧
   responseOf ⟨.seven, true, 0⟩ (.pidx64 q) = { err := false, result := 8 } ∧
   foldedOf64 ⟨.six, true, 0⟩ q = 0x9C685A52F997DF56 ∧ foldedOf64 ⟨.seven, true, 0⟩ q = 0x9C685A52A61B2838)

/-- R117: PIDX32 completes with its index for every positive count, with the magic constant when `MAGIC32` = 1 and
without it when `MAGIC32` = 0, raises the exception for every other count, equals PIDX64 of the same number when
`MAGIC32` = 1, and its example in all four instances. That the register `MAGICEFF` keeps its value when `MAGIC32` = 0 is the
model's choice (log entry 8): R117 computes no `MAGICEFF` there, and R23 makes it a value and not storage. -/
def Obligations.PartitionIndex32Completes : Prop :=
  (∀ (q : Operands) (s : State), 0 < q.nparts.toInt →
    ∃ t, exec (.pidx32 q) s = .next t ∧
      t.seedEff = (if q.sd then q.seed else 0x7A5B22367996DCFD) ∧
      t.key = q.val.extractLsb' 0 32 ∧
      t.h = hashWord s.cfg.finalGroups t.key t.seedEff ∧
      (if s.cfg.magic32 = true then
        t.magicEff = (if q.mg then q.magic else 0x4992394D24F64163) ∧ t.folded = t.h + t.magicEff
       else t.magicEff = s.magicEff ∧ t.folded = t.h) ∧
      t.idx.toNat = t.folded.toNat % q.nparts.toNat ∧
      t.pipe = s.pipe ++ [some { err := false, result := t.idx }]) ∧
  (∀ (q : Operands) (s : State), q.nparts.toInt ≤ 0 →
    exec (.pidx32 q) s = .next { s with pipe := s.pipe ++ [some { err := true, result := q.nparts }] }) ∧
  (∀ q : Operands, (encodeRequest (.pidx32 q)).cmd.extractLsb' 0 2 = 0b10) ∧
  (∀ (q : Operands) (s : State), s.cfg.magic32 = true →
    answer (.pidx32 q) s = answer (.pidx64 { q with val := (q.val.extractLsb' 0 32 : Word).signExtend 64 }) s) ∧
  (let q : Operands := { mg := false, sd := false, val := 0xFFFFFFFFFFFFFFFF, nparts := 16, seed := 0, magic := 0 }
   responseOf ⟨.six, true, 0⟩ (.pidx32 q) = { err := false, result := 4 } ∧
   responseOf ⟨.seven, true, 0⟩ (.pidx32 q) = { err := false, result := 5 } ∧
   responseOf ⟨.six, false, 0⟩ (.pidx32 q) = { err := false, result := 1 } ∧
   responseOf ⟨.seven, false, 0⟩ (.pidx32 q) = { err := false, result := 2 })

/-- R131, R132, R118: a count that is not positive makes the response the error with that count, whatever every other
operand is, and nothing else of the state changes; the host recovers the count; a hash command never raises it. -/
def Obligations.NonPositiveCountRaisesError : Prop :=
  (∀ (q : Operands) (s : State), q.nparts.toInt ≤ 0 →
    (let t : State := { s with pipe := s.pipe ++ [some { err := true, result := q.nparts }] }
     exec (.pidx32 q) s = .next t ∧ exec (.pidx64 q) s = .next t) ∧
    ∃ n, ({ err := true, result := q.nparts } : Response).offendingCount? = some n ∧ n = q.nparts.toInt ∧ n ≤ 0) ∧
  (∀ (q : Operands) (s : State), 0 < q.nparts.toInt →
    (∃ v, answer (.pidx32 q) s = some { err := false, result := v }) ∧
    (∃ v, answer (.pidx64 q) s = some { err := false, result := v })) ∧
  (∀ (q : Operands) (s : State),
    (∃ v, answer (.hashx32 q) s = some { err := false, result := v }) ∧
    (∃ v, answer (.hashx64 q) s = some { err := false, result := v }))

/-- What a hash command leaves unchanged: every field but those its pseudocode writes, and the response enters behind all
that is in flight. That an intermediate which a command does not compute keeps its value (`MAGICEFF`, `FOLDED`, `IDX`, and
on HASHX32, which splits no key, `LOHALF` and `HIHALF`) is the model's choice (log entry 8): R23 makes the intermediates
values and not storage. -/
def Obligations.HashCommandsFrame : Prop :=
  (∀ (q : Operands) (s t : State), exec (.hashx32 q) s = .next t →
    t = { s with mix := t.mix, seedEff := t.seedEff, key := t.key, h := t.h, pipe := t.pipe } ∧
    ∃ r, t.pipe = s.pipe ++ [some r]) ∧
  (∀ (q : Operands) (s t : State), exec (.hashx64 q) s = .next t →
    t = { s with
      mix := t.mix, seedEff := t.seedEff, loHalf := t.loHalf, hiHalf := t.hiHalf, key := t.key, h := t.h,
      pipe := t.pipe } ∧
    ∃ r, t.pipe = s.pipe ++ [some r])

/-- What a partition-index command leaves unchanged: every field but those its pseudocode writes; PIDX32 writes `MAGICEFF`
only when `MAGIC32` = 1. That `LOHALF` and `HIHALF` on PIDX32, and `MAGICEFF` on PIDX32 with `MAGIC32` = 0, keep their values
is the model's choice (log entry 8): R23 makes the intermediates values and not storage. -/
def Obligations.PartitionIndexCommandsFrame : Prop :=
  (∀ (q : Operands) (s t : State), exec (.pidx32 q) s = .next t →
    t = { s with
      mix := t.mix, seedEff := t.seedEff, magicEff := t.magicEff, key := t.key, h := t.h, folded := t.folded,
      idx := t.idx, pipe := t.pipe } ∧
    (s.cfg.magic32 = false → t.magicEff = s.magicEff) ∧
    ∃ r, t.pipe = s.pipe ++ [some r]) ∧
  (∀ (q : Operands) (s t : State), exec (.pidx64 q) s = .next t →
    t = { s with
      mix := t.mix, seedEff := t.seedEff, magicEff := t.magicEff, loHalf := t.loHalf, hiHalf := t.hiHalf,
      key := t.key, h := t.h, folded := t.folded, idx := t.idx, pipe := t.pipe } ∧
    ∃ r, t.pipe = s.pipe ++ [some r])

/-- R55: a port or field that a command does not use has no effect at all, on the response or on any register. -/
def Obligations.IgnoredInputsHaveNoEffect : Prop :=
  (∀ (q q' : Operands) (s : State),
    q.val.extractLsb' 0 32 = q'.val.extractLsb' 0 32 → q.sd = q'.sd → (q.sd = true → q.seed = q'.seed) →
    exec (.hashx32 q) s = exec (.hashx32 q') s) ∧
  (∀ (q q' : Operands) (s : State),
    q.val = q'.val → q.sd = q'.sd → (q.sd = true → q.seed = q'.seed) →
    exec (.hashx64 q) s = exec (.hashx64 q') s) ∧
  (∀ (q q' : Operands) (s : State),
    q.val.extractLsb' 0 32 = q'.val.extractLsb' 0 32 → q.nparts = q'.nparts →
    q.sd = q'.sd → (q.sd = true → q.seed = q'.seed) →
    (s.cfg.magic32 = true → q.mg = q'.mg ∧ (q.mg = true → q.magic = q'.magic)) →
    exec (.pidx32 q) s = exec (.pidx32 q') s) ∧
  (∀ (q q' : Operands) (s : State),
    q.val = q'.val → q.nparts = q'.nparts → q.sd = q'.sd → (q.sd = true → q.seed = q'.seed) →
    q.mg = q'.mg → (q.mg = true → q.magic = q'.magic) →
    exec (.pidx64 q) s = exec (.pidx64 q') s)

/-- R16, R20: the register transfers of every command answer with the pure function of the request and the parameters
that the response is, behind all that is in flight; the response ports, the host's edges and the parameters stay. -/
def Obligations.CommandsAnswerThePureFunction : Prop :=
  ∀ (i : Instr) (s : State), ∃ t,
    exec i s = .next t ∧ t.pipe = s.pipe ++ [some (responseOf s.cfg i)] ∧
    t.cfg = s.cfg ∧ t.out = s.out ∧ t.edges = s.edges

/-- R46, R138: the response of a command is the same after any other command as without it; an error does not stick. -/
def Obligations.EarlierTransactionsDoNotMatter : Prop :=
  ∀ (i j : Instr) (s t : State), exec j s = .next t →
    ∃ r, answer i s = some r ∧ answer i t = some r

/-- R121: with a positive count the response is no error and an index in [0, count - 1], whose signed and unsigned
readings agree (R59). -/
def Obligations.IndexLiesInRange : Prop :=
  ∀ (q : Operands) (s : State), 0 < q.nparts.toInt →
    (∃ v, answer (.pidx64 q) s = some { err := false, result := v } ∧
      0 ≤ v.toInt ∧ v.toInt ≤ q.nparts.toInt - 1 ∧ v.toInt = v.toNat) ∧
    (∃ v, answer (.pidx32 q) s = some { err := false, result := v } ∧
      0 ≤ v.toInt ∧ v.toInt ≤ q.nparts.toInt - 1 ∧ v.toInt = v.toNat)

/-- R122: one partition has index 0, for any key, seed, magic and parameters. -/
def Obligations.SinglePartitionHasIndexZero : Prop :=
  ∀ (q : Operands) (s : State), q.nparts = 1 →
    answer (.pidx64 q) s = some { err := false, result := 0 } ∧
    answer (.pidx32 q) s = some { err := false, result := 0 }

/-- R103, R124 (a): with `MAGIC32` = 1 the two widths give every number that fits in 32 bits the same response, for every
count, seed and magic; so the source's width sensitivity has no witness there: no operands and no state of such a block
give the two widths different responses. -/
def Obligations.WidthsAgreeWithMagicOnBothPaths : Prop :=
  ∀ (q : Operands) (s : State), s.cfg.magic32 = true →
    answer (.pidx64 { q with val := (q.val.extractLsb' 0 32 : Word).signExtend 64 }) s = answer (.pidx32 q) s ∧
    ∀ v : DWord, -(2 ^ 31 : Int) ≤ v.toInt → v.toInt ≤ 2 ^ 31 - 1 →
      answer (.pidx64 { q with val := v }) s = answer (.pidx32 { q with val := v }) s

/-- R124 (b): with `MAGIC32` = 0, count 16 and the default magic the two widths differ for every number that fits in
32 bits, by exactly 3 modulo 16. -/
def Obligations.WidthsDifferByThreeWithoutMagic : Prop :=
  ∀ (q : Operands) (s : State), s.cfg.magic32 = false → q.nparts = 16 → q.mg = false →
    ∃ v w,
      answer (.pidx64 { q with val := (q.val.extractLsb' 0 32 : Word).signExtend 64 }) s
        = some { err := false, result := v } ∧
      answer (.pidx32 q) s = some { err := false, result := w } ∧
      v.toNat = (w.toNat + 3) % 16 ∧ v ≠ w

/-- R62, R113: writing the defaults out is the same as leaving them out, for the whole effect of the command. -/
def Obligations.WrittenDefaultsEqualOmittedOnes : Prop :=
  ∀ (q : Operands) (s : State),
    exec (.pidx64 { q with sd := true, seed := 0x7A5B22367996DCFD, mg := true, magic := 0x4992394D24F64163 }) s =
      exec (.pidx64 { q with sd := false, mg := false }) s ∧
    exec (.pidx32 { q with sd := true, seed := 0x7A5B22367996DCFD, mg := true, magic := 0x4992394D24F64163 }) s =
      exec (.pidx32 { q with sd := false, mg := false }) s ∧
    exec (.hashx64 { q with sd := true, seed := 0x7A5B22367996DCFD }) s = exec (.hashx64 { q with sd := false }) s ∧
    exec (.hashx32 { q with sd := true, seed := 0x7A5B22367996DCFD }) s = exec (.hashx32 { q with sd := false }) s

/-- R62: with magic 0 the index is the remainder of the hash command's result, on both widths and in both instances of
`MAGIC32`. -/
def Obligations.MagicZeroReducesTheHash : Prop :=
  ∀ (q : Operands) (s : State), 0 < q.nparts.toInt → q.mg = true → q.magic = 0 →
    (∃ v h, answer (.pidx64 q) s = some { err := false, result := v } ∧
      answer (.hashx64 q) s = some { err := false, result := h } ∧ v.toNat = h.toNat % q.nparts.toNat) ∧
    (∃ v h, answer (.pidx32 q) s = some { err := false, result := v } ∧
      answer (.hashx32 q) s = some { err := false, result := h } ∧ v.toNat = h.toNat % q.nparts.toNat)

/-! ### Clock edges and runs -/

/-- R157: an edge with `RST` = 0 and `REQ_VALID` = 1 performs the command the request decodes to; around it the step
presents the oldest stage and consumes the edge, and changes nothing else. -/
def Obligations.StepRunsTheDecodedRequest : Prop :=
  ∀ (s : State) (e : Edge) (es : List Edge), s.edges = e :: es → e.rst = false → e.reqValid = true →
    step s =
      (match exec (decodeRequest e.req) s with
        | .next t    => .next { t with out := t.pipe.headD none, pipe := t.pipe.tail, edges := t.edges.tail }
        | .fault f   => .fault f
        | .refused r => .refused r)

/-- R157, R158: an edge with `RST` = 0 and `REQ_VALID` = 0 accepts nothing, whatever the request ports carry, and the
stages move on by one. That no register changes at such an edge is the model's choice: R157 and R158 speak of no register,
and it rests on a transaction being performed whole at its accepting edge (log entry 1), on the intermediates being held in
State (log entry 8) and on the edges being a list there (log entry 9). -/
def Obligations.EdgeWithoutRequestMovesStagesOnly : Prop :=
  ∀ (s : State), s.edge.rst = false → s.edge.reqValid = false →
    step s = .next { s with
      out := (s.pipe ++ [none]).headD none, pipe := (s.pipe ++ [none]).tail, edges := s.edges.tail }

/-- R151: at an edge with `RST` = 1 nothing is accepted, whatever `REQ_VALID` is, nothing stays in flight, `RSP_VALID` is 0,
and stays 0 for as long as no request is accepted. -/
def Obligations.ResetDiscardsEverythingInFlight : Prop :=
  ∀ (s : State), s.edge.rst = true →
    ∃ t, step s = .next t ∧ t.inFlight = [] ∧ t.rspValid = false ∧ t.cfg = s.cfg ∧ t.edges = s.edges.tail ∧
      ∀ n, (∀ e ∈ t.edges.take n, e.rst = true ∨ e.reqValid = false) → outputs n t = List.replicate n none

/-- R134, R160: no edge stops the machine, in any state. -/
def Obligations.EveryStepAnswersNext : Prop :=
  ∀ s : State, ∃ t, step s = .next t

/-- R156, R158, R131: there stay `LAT` stages, and an error response in flight or presented carries a count that is not
positive. -/
def Obligations.StepKeepsTheInvariant : Prop :=
  ∀ s t : State, s.Inv → step s = .next t → t.Inv

/-- The invariant holds right after reset. -/
def Obligations.ResetMeetsTheInvariant : Prop :=
  State.reset.Inv ∧ ∀ p : Params, (State.initial p).Inv

/-- R156: up to `LAT` transactions are in flight, in every state that meets the invariant. -/
def Obligations.AtMostLatTransactionsInFlight : Prop :=
  ∀ s t : State, s.Inv → step s = .next t → t.inFlight.length ≤ t.cfg.lat

/-- R31: no step changes a parameter the block was built with. -/
def Obligations.StepKeepsTheParameters : Prop :=
  ∀ s t : State, step s = .next t → t.cfg = s.cfg

/-- R158: the response of a request accepted at an edge is on the ports in the cycle after edge `t + LAT`, when no reset
comes between. -/
def Obligations.ResponseIsPresentedAfterLatency : Prop :=
  ∀ (s : State) (e : Edge) (es : List Edge), s.Inv → s.edges = e :: es → e.rst = false → e.reqValid = true →
    NoReset (es.take s.cfg.lat) →
    (outputs (s.cfg.lat + 1) s)[s.cfg.lat]? = some (some (responseOf s.cfg (decodeRequest e.req)))

/-- R156, R158, R160: over a run without reset, and `LAT` edges more, the ports present exactly what was in flight and
then, cycle for cycle, one response for each accepted request, in order, each the function of its own request; with
nothing in flight at the start there are exactly as many responses as requests. The cycle in which each is presented, with
`LAT` = 0 the one that follows the accepting edge, is the model's reading of R158 (log entry 2). -/
def Obligations.RunPresentsEveryResponseInOrder : Prop :=
  ∀ s : State, s.Inv → NoReset s.edges →
    outputs (s.edges.length + s.cfg.lat) s = s.pipe ++ s.edges.map (enters s.cfg) ∧
    (outputs (s.edges.length + s.cfg.lat) s).filterMap id =
      s.inFlight ++ (accepted s.edges).map (fun r => responseOf s.cfg (decodeRequest r)) ∧
    (s.inFlight = [] →
      ((outputs (s.edges.length + s.cfg.lat) s).filterMap id).length = (accepted s.edges).length)

/-- R27, R35, R151, R157: what the response ports present depends on the parameters, on what is in flight and on the
requests accepted, and on nothing else: no value of a register, and nothing the ports carry where no request is accepted,
can be observed. -/
def Obligations.RegistersAndIdlePortsAreUnobservable : Prop :=
  ∀ (n : Nat) (s s' : State), s.cfg = s'.cfg → s.pipe = s'.pipe → List.Forall₂ Edge.Alike s.edges s'.edges →
    outputs n s = outputs n s'

/-- R35, R152: after reset nothing is in flight, `RSP_VALID` is 0, and the block is the one with six groups (R83). That
the host drives nothing is the model's choice (log entry 9). -/
def Obligations.ResetLeavesNothingInFlight : Prop :=
  State.reset.inFlight = [] ∧ State.reset.rspValid = false ∧ State.reset.cfg.finalGroups = .six ∧
  State.reset.pipe.length = State.reset.cfg.lat ∧ State.reset.edges = []

/-- R28: `ERR` and `RESULT` can be read exactly when `RSP_VALID` is 1. -/
def Obligations.ResponsePortsHaveNoValueWithoutResponse : Prop :=
  ∀ s : State,
    if s.rspValid = true then ∃ r, s.out = some r ∧ s.readResponse = .ok r
    else s.readResponse = .error .noResponse

/-! ### Textual requests -/

/-- R61: the ports of a textual request within its ranges: the command of its mnemonic, the two's-complement value,
sign-extended for a 32-bit key, the count, and the selection bits set exactly where `seed=` and `magic=` are written. -/
def Obligations.TextualRequestsTranslate : Prop :=
  ∀ t : TextRequest, t.wf = true →
    assembleChecked t = .ok (assemble t) ∧
    decodeRequest (assemble t) =
      (match t.mnemonic with
        | .hashx32 => .hashx32 (assemble t).operands
        | .hashx64 => .hashx64 (assemble t).operands
        | .pidx32  => .pidx32 (assemble t).operands
        | .pidx64  => .pidx64 (assemble t).operands) ∧
    (match t.value with
      | .dec v => (assemble t).val.toInt = v
      | .hex v =>
        if t.mnemonic.wide then (assemble t).val.toNat = v
        else ((assemble t).val.extractLsb' 0 32 : Word).toNat = v ∧
          (assemble t).val = ((assemble t).val.extractLsb' 0 32 : Word).signExtend 64) ∧
    (match t.nparts with
      | none   => (assemble t).nparts = 0
      | some n => (assemble t).nparts.toInt = n) ∧
    (match t.seed with
      | none   => (assemble t).operands.sd = false ∧ (assemble t).seed = 0
      | some v => (assemble t).operands.sd = true ∧ (assemble t).seed.toNat = v) ∧
    (match t.magic with
      | none   => (assemble t).operands.mg = false ∧ (assemble t).magic = 0
      | some v => (assemble t).operands.mg = true ∧ (assemble t).magic.toNat = v)

/-- A textual request, once read, that R60 does not admit is refused, and nothing else is; what is wrong is named: a value
out of range, a count that is missing, not allowed or out of range, a seed out of range, a magic out of range. The ranges
are R60's, and the first clause spells them out. That a violation is refused, under which name, and that the first in this
order is the one named, are the model's choice (log entry 20): R60 states no refusal. -/
def Obligations.TextualRequestsOutOfRangeAreRefused : Prop :=
  ∀ t : TextRequest,
    ((t.valueOk = true ↔
        match t.value with
        | .dec v =>
          if t.mnemonic.wide then -(2 ^ 63 : Int) ≤ v ∧ v ≤ 2 ^ 63 - 1 else -(2 ^ 31 : Int) ≤ v ∧ v ≤ 2 ^ 31 - 1
        | .hex v => if t.mnemonic.wide then v < 2 ^ 64 else v < 2 ^ 32) ∧
      (t.seedOk = true ↔ ∀ v, t.seed = some v → v < 2 ^ 64) ∧
      (t.magicOk = true ↔ ∀ v, t.magic = some v → v < 2 ^ 64)) ∧
    (t.valueOk = false → assembleChecked t = .error .valueRange) ∧
    (t.valueOk = true →
      (t.nparts = none → t.mnemonic.index = true → assembleChecked t = .error .npartsMissing) ∧
      (∀ n, t.nparts = some n → t.mnemonic.index = false → assembleChecked t = .error .npartsNotAllowed) ∧
      (∀ n, t.nparts = some n → t.mnemonic.index = true → n < -(2 ^ 63 : Int) ∨ 2 ^ 63 - 1 < n →
        assembleChecked t = .error .npartsRange)) ∧
    (t.valueOk = true → t.npartsOk = true →
      (t.seedOk = false → assembleChecked t = .error .seedRange) ∧
      (t.seedOk = true → t.magicOk = false → assembleChecked t = .error .magicRange)) ∧
    (t.wf = false ↔ ∃ e, assembleChecked t = .error e)

/-! ### The registers after a command -/

/-- The state that each command leaves, field by field: `A`, `B`, `C` as HASHWORD leaves them (R88), `LOHALF` and `HIHALF` the
halves of `VAL` (R100), `KEY`, `H`, `FOLDED` and `IDX` as the pseudocode of R114 to R117 computes them, the response behind all
that is in flight, and every other field as it was; and after each hash `H` is `{B, C}` (R90). That the registers hold
these values after the transaction, and that an intermediate which the command does not compute keeps its value, are the
model's choice (log entry 8). -/
def Obligations.CommandsLeaveTheirRegisters : Prop :=
  ∀ (q : Operands) (s : State),
    let seed : DWord := if q.sd then q.seed else 0x7A5B22367996DCFD
    let magic : DWord := if q.mg then q.magic else 0x4992394D24F64163
    let lo : Word := q.val.extractLsb' 0 32
    let hi : Word := q.val.extractLsb' 32 32
    let k64 : Word := if q.val.toInt < 0 then lo ^^^ ~~~hi else lo ^^^ hi
    let regs32 := hashWordRegs s.cfg.finalGroups lo seed s.mix
    let regs64 := hashWordRegs s.cfg.finalGroups k64 seed s.mix
    let h32 : DWord := regs32.b ++ regs32.c
    let h64 : DWord := regs64.b ++ regs64.c
    let folded32 : DWord := if s.cfg.magic32 = true then h32 + magic else h32
    let idx (folded : DWord) : DWord := BitVec.ofNat 64 (folded.toNat % q.nparts.toNat)
    exec (.hashx32 q) s = .next { s with
      mix := regs32, seedEff := seed, key := lo, h := h32, pipe := s.pipe ++ [some { err := false, result := h32 }] } ∧
    exec (.hashx64 q) s = .next { s with
      mix := regs64, seedEff := seed, loHalf := lo, hiHalf := hi, key := k64, h := h64,
      pipe := s.pipe ++ [some { err := false, result := h64 }] } ∧
    (0 < q.nparts.toInt →
      exec (.pidx32 q) s = .next { s with
        mix := regs32, seedEff := seed, magicEff := if s.cfg.magic32 = true then magic else s.magicEff,
        key := lo, h := h32, folded := folded32, idx := idx folded32,
        pipe := s.pipe ++ [some { err := false, result := idx folded32 }] } ∧
      exec (.pidx64 q) s = .next { s with
        mix := regs64, seedEff := seed, magicEff := magic, loHalf := lo, hiHalf := hi, key := k64, h := h64,
        folded := h64 + magic, idx := idx (h64 + magic),
        pipe := s.pipe ++ [some { err := false, result := idx (h64 + magic) }] })
end

