-- ==== Sys2Proof/Laws/Bits.lean ====
section
/-! SUPPORT. The laws of the halves of a 64-bit value (spec/00_scope.md R12, spec/20_memory.md R45). -/

namespace Sys2Proof

theorem lo32_getLsbD (v : DWord) (j : Nat) : (lo32 v).getLsbD j = (decide (j < 32) && v.getLsbD j) := by
  rw [lo32, BitVec.getLsbD_extractLsb', Nat.zero_add]

theorem hi32_getLsbD (v : DWord) (j : Nat) : (hi32 v).getLsbD j = (decide (j < 32) && v.getLsbD (32 + j)) := by
  rw [hi32, BitVec.getLsbD_extractLsb']

theorem cat32_getLsbD (x y : Word) (j : Nat) :
    (cat32 x y).getLsbD j = if j < 32 then y.getLsbD j else x.getLsbD (j - 32) := by
  rw [cat32, BitVec.getLsbD_append]

@[simp] theorem lo32_cat32 (x y : Word) : lo32 (cat32 x y) = y := by
  apply BitVec.eq_of_getLsbD_eq
  intro j hj
  rw [lo32_getLsbD, cat32_getLsbD, if_pos hj, decide_eq_true hj, Bool.true_and]

@[simp] theorem hi32_cat32 (x y : Word) : hi32 (cat32 x y) = x := by
  apply BitVec.eq_of_getLsbD_eq
  intro j hj
  rw [hi32_getLsbD, cat32_getLsbD, if_neg (by omega), decide_eq_true hj, Bool.true_and, Nat.add_sub_cancel_left]

@[simp] theorem cat32_hi32_lo32 (v : DWord) : cat32 (hi32 v) (lo32 v) = v := by
  apply BitVec.eq_of_getLsbD_eq
  intro j hj
  rw [cat32_getLsbD, lo32_getLsbD, hi32_getLsbD]
  by_cases h : j < 32
  · rw [if_pos h, decide_eq_true h, Bool.true_and]
  · rw [if_neg h, decide_eq_true (by omega), Bool.true_and, Nat.add_sub_cancel' (by omega)]

theorem sext64_getLsbD (v : Word) (j : Nat) (hj : j < 64) :
    (sext64 v).getLsbD j = if j < 32 then v.getLsbD j else v.msb := by
  rw [sext64, BitVec.getLsbD_signExtend, decide_eq_true hj, Bool.true_and]

/-- The low half of a sign-extended word is the word. -/
@[simp] theorem lo32_sext64 (v : Word) : lo32 (sext64 v) = v := by
  apply BitVec.eq_of_getLsbD_eq
  intro j hj
  rw [lo32_getLsbD, sext64_getLsbD v j (by omega), if_pos hj, decide_eq_true hj, Bool.true_and]

/-- The high half of a sign-extended word is all zeros or all ones. -/
theorem hi32_sext64 (v : Word) : hi32 (sext64 v) = if v.msb then BitVec.allOnes 32 else 0 := by
  apply BitVec.eq_of_getLsbD_eq
  intro j hj
  rw [hi32_getLsbD, sext64_getLsbD v _ (by omega), if_neg (by omega), decide_eq_true hj, Bool.true_and]
  cases v.msb
  · rw [if_neg (by decide)]
    exact BitVec.getLsbD_zero.symm
  · rw [if_pos rfl, BitVec.getLsbD_allOnes, decide_eq_true hj]

end Sys2Proof
end

