-- ==== Sys2Proof/Laws/Decode.lean ====
section
/-! SUPPORT. The small laws of the `CMD` fields (spec/30_encoding.md R51). -/

namespace Sys2Proof

@[simp] theorem cmdW_cmdOf (mg sd fn w : Bool) : cmdW (cmdOf mg sd fn w) = w := by
  cases mg <;> cases sd <;> cases fn <;> cases w <;> rfl

@[simp] theorem cmdFN_cmdOf (mg sd fn w : Bool) : cmdFN (cmdOf mg sd fn w) = fn := by
  cases mg <;> cases sd <;> cases fn <;> cases w <;> rfl

@[simp] theorem cmdSD_cmdOf (mg sd fn w : Bool) : cmdSD (cmdOf mg sd fn w) = sd := by
  cases mg <;> cases sd <;> cases fn <;> cases w <;> rfl

@[simp] theorem cmdMG_cmdOf (mg sd fn w : Bool) : cmdMG (cmdOf mg sd fn w) = mg := by
  cases mg <;> cases sd <;> cases fn <;> cases w <;> rfl

/-- A `CMD` is its four fields and nothing else (R51). -/
theorem cmdOf_fields (c : Cmd) : cmdOf (cmdMG c) (cmdSD c) (cmdFN c) (cmdW c) = c := by
  revert c
  decide

section Fields

variable (w : ReqWord)

/-! The five ports of a `REQ` word (R50). -/

theorem unpack_cmd : (Request.unpack w).cmd = w.extractLsb' 256 4 := rfl
theorem unpack_val : (Request.unpack w).val = w.extractLsb' 192 64 := rfl
theorem unpack_nparts : (Request.unpack w).nparts = w.extractLsb' 128 64 := rfl
theorem unpack_seed : (Request.unpack w).seed = w.extractLsb' 64 64 := rfl
theorem unpack_magic : (Request.unpack w).magic = w.extractLsb' 0 64 := rfl

end Fields

end Sys2Proof
end

