-- ==== Sys2Proof/Laws/State.lean ====
section
/-! SUPPORT. One lemma per field per update of the state, so that no later proof unfolds a record update. -/

namespace Sys2Proof.Machine

section Updates

variable (s : State)

@[simp] theorem setMix_cfg (m : Mixer) : (s.setMix m).cfg = s.cfg := rfl
@[simp] theorem setMix_mix (m : Mixer) : (s.setMix m).mix = m := rfl
@[simp] theorem setMix_seedEff (m : Mixer) : (s.setMix m).seedEff = s.seedEff := rfl
@[simp] theorem setMix_magicEff (m : Mixer) : (s.setMix m).magicEff = s.magicEff := rfl
@[simp] theorem setMix_loHalf (m : Mixer) : (s.setMix m).loHalf = s.loHalf := rfl
@[simp] theorem setMix_hiHalf (m : Mixer) : (s.setMix m).hiHalf = s.hiHalf := rfl
@[simp] theorem setMix_key (m : Mixer) : (s.setMix m).key = s.key := rfl
@[simp] theorem setMix_h (m : Mixer) : (s.setMix m).h = s.h := rfl
@[simp] theorem setMix_folded (m : Mixer) : (s.setMix m).folded = s.folded := rfl
@[simp] theorem setMix_idx (m : Mixer) : (s.setMix m).idx = s.idx := rfl
@[simp] theorem setMix_pipe (m : Mixer) : (s.setMix m).pipe = s.pipe := rfl
@[simp] theorem setMix_out (m : Mixer) : (s.setMix m).out = s.out := rfl
@[simp] theorem setMix_edges (m : Mixer) : (s.setMix m).edges = s.edges := rfl

@[simp] theorem setSeedEff_cfg (v : DWord) : (s.setSeedEff v).cfg = s.cfg := rfl
@[simp] theorem setSeedEff_mix (v : DWord) : (s.setSeedEff v).mix = s.mix := rfl
@[simp] theorem setSeedEff_seedEff (v : DWord) : (s.setSeedEff v).seedEff = v := rfl
@[simp] theorem setSeedEff_magicEff (v : DWord) : (s.setSeedEff v).magicEff = s.magicEff := rfl
@[simp] theorem setSeedEff_loHalf (v : DWord) : (s.setSeedEff v).loHalf = s.loHalf := rfl
@[simp] theorem setSeedEff_hiHalf (v : DWord) : (s.setSeedEff v).hiHalf = s.hiHalf := rfl
@[simp] theorem setSeedEff_key (v : DWord) : (s.setSeedEff v).key = s.key := rfl
@[simp] theorem setSeedEff_h (v : DWord) : (s.setSeedEff v).h = s.h := rfl
@[simp] theorem setSeedEff_folded (v : DWord) : (s.setSeedEff v).folded = s.folded := rfl
@[simp] theorem setSeedEff_idx (v : DWord) : (s.setSeedEff v).idx = s.idx := rfl
@[simp] theorem setSeedEff_pipe (v : DWord) : (s.setSeedEff v).pipe = s.pipe := rfl
@[simp] theorem setSeedEff_out (v : DWord) : (s.setSeedEff v).out = s.out := rfl
@[simp] theorem setSeedEff_edges (v : DWord) : (s.setSeedEff v).edges = s.edges := rfl

@[simp] theorem setMagicEff_cfg (v : DWord) : (s.setMagicEff v).cfg = s.cfg := rfl
@[simp] theorem setMagicEff_mix (v : DWord) : (s.setMagicEff v).mix = s.mix := rfl
@[simp] theorem setMagicEff_seedEff (v : DWord) : (s.setMagicEff v).seedEff = s.seedEff := rfl
@[simp] theorem setMagicEff_magicEff (v : DWord) : (s.setMagicEff v).magicEff = v := rfl
@[simp] theorem setMagicEff_loHalf (v : DWord) : (s.setMagicEff v).loHalf = s.loHalf := rfl
@[simp] theorem setMagicEff_hiHalf (v : DWord) : (s.setMagicEff v).hiHalf = s.hiHalf := rfl
@[simp] theorem setMagicEff_key (v : DWord) : (s.setMagicEff v).key = s.key := rfl
@[simp] theorem setMagicEff_h (v : DWord) : (s.setMagicEff v).h = s.h := rfl
@[simp] theorem setMagicEff_folded (v : DWord) : (s.setMagicEff v).folded = s.folded := rfl
@[simp] theorem setMagicEff_idx (v : DWord) : (s.setMagicEff v).idx = s.idx := rfl
@[simp] theorem setMagicEff_pipe (v : DWord) : (s.setMagicEff v).pipe = s.pipe := rfl
@[simp] theorem setMagicEff_out (v : DWord) : (s.setMagicEff v).out = s.out := rfl
@[simp] theorem setMagicEff_edges (v : DWord) : (s.setMagicEff v).edges = s.edges := rfl

@[simp] theorem setHalves_cfg (lo hi : Word) : (s.setHalves lo hi).cfg = s.cfg := rfl
@[simp] theorem setHalves_mix (lo hi : Word) : (s.setHalves lo hi).mix = s.mix := rfl
@[simp] theorem setHalves_seedEff (lo hi : Word) : (s.setHalves lo hi).seedEff = s.seedEff := rfl
@[simp] theorem setHalves_magicEff (lo hi : Word) : (s.setHalves lo hi).magicEff = s.magicEff := rfl
@[simp] theorem setHalves_loHalf (lo hi : Word) : (s.setHalves lo hi).loHalf = lo := rfl
@[simp] theorem setHalves_hiHalf (lo hi : Word) : (s.setHalves lo hi).hiHalf = hi := rfl
@[simp] theorem setHalves_key (lo hi : Word) : (s.setHalves lo hi).key = s.key := rfl
@[simp] theorem setHalves_h (lo hi : Word) : (s.setHalves lo hi).h = s.h := rfl
@[simp] theorem setHalves_folded (lo hi : Word) : (s.setHalves lo hi).folded = s.folded := rfl
@[simp] theorem setHalves_idx (lo hi : Word) : (s.setHalves lo hi).idx = s.idx := rfl
@[simp] theorem setHalves_pipe (lo hi : Word) : (s.setHalves lo hi).pipe = s.pipe := rfl
@[simp] theorem setHalves_out (lo hi : Word) : (s.setHalves lo hi).out = s.out := rfl
@[simp] theorem setHalves_edges (lo hi : Word) : (s.setHalves lo hi).edges = s.edges := rfl

@[simp] theorem setKey_cfg (v : Word) : (s.setKey v).cfg = s.cfg := rfl
@[simp] theorem setKey_mix (v : Word) : (s.setKey v).mix = s.mix := rfl
@[simp] theorem setKey_seedEff (v : Word) : (s.setKey v).seedEff = s.seedEff := rfl
@[simp] theorem setKey_magicEff (v : Word) : (s.setKey v).magicEff = s.magicEff := rfl
@[simp] theorem setKey_loHalf (v : Word) : (s.setKey v).loHalf = s.loHalf := rfl
@[simp] theorem setKey_hiHalf (v : Word) : (s.setKey v).hiHalf = s.hiHalf := rfl
@[simp] theorem setKey_key (v : Word) : (s.setKey v).key = v := rfl
@[simp] theorem setKey_h (v : Word) : (s.setKey v).h = s.h := rfl
@[simp] theorem setKey_folded (v : Word) : (s.setKey v).folded = s.folded := rfl
@[simp] theorem setKey_idx (v : Word) : (s.setKey v).idx = s.idx := rfl
@[simp] theorem setKey_pipe (v : Word) : (s.setKey v).pipe = s.pipe := rfl
@[simp] theorem setKey_out (v : Word) : (s.setKey v).out = s.out := rfl
@[simp] theorem setKey_edges (v : Word) : (s.setKey v).edges = s.edges := rfl

@[simp] theorem setH_cfg (v : DWord) : (s.setH v).cfg = s.cfg := rfl
@[simp] theorem setH_mix (v : DWord) : (s.setH v).mix = s.mix := rfl
@[simp] theorem setH_seedEff (v : DWord) : (s.setH v).seedEff = s.seedEff := rfl
@[simp] theorem setH_magicEff (v : DWord) : (s.setH v).magicEff = s.magicEff := rfl
@[simp] theorem setH_loHalf (v : DWord) : (s.setH v).loHalf = s.loHalf := rfl
@[simp] theorem setH_hiHalf (v : DWord) : (s.setH v).hiHalf = s.hiHalf := rfl
@[simp] theorem setH_key (v : DWord) : (s.setH v).key = s.key := rfl
@[simp] theorem setH_h (v : DWord) : (s.setH v).h = v := rfl
@[simp] theorem setH_folded (v : DWord) : (s.setH v).folded = s.folded := rfl
@[simp] theorem setH_idx (v : DWord) : (s.setH v).idx = s.idx := rfl
@[simp] theorem setH_pipe (v : DWord) : (s.setH v).pipe = s.pipe := rfl
@[simp] theorem setH_out (v : DWord) : (s.setH v).out = s.out := rfl
@[simp] theorem setH_edges (v : DWord) : (s.setH v).edges = s.edges := rfl

@[simp] theorem setFolded_cfg (v : DWord) : (s.setFolded v).cfg = s.cfg := rfl
@[simp] theorem setFolded_mix (v : DWord) : (s.setFolded v).mix = s.mix := rfl
@[simp] theorem setFolded_seedEff (v : DWord) : (s.setFolded v).seedEff = s.seedEff := rfl
@[simp] theorem setFolded_magicEff (v : DWord) : (s.setFolded v).magicEff = s.magicEff := rfl
@[simp] theorem setFolded_loHalf (v : DWord) : (s.setFolded v).loHalf = s.loHalf := rfl
@[simp] theorem setFolded_hiHalf (v : DWord) : (s.setFolded v).hiHalf = s.hiHalf := rfl
@[simp] theorem setFolded_key (v : DWord) : (s.setFolded v).key = s.key := rfl
@[simp] theorem setFolded_h (v : DWord) : (s.setFolded v).h = s.h := rfl
@[simp] theorem setFolded_folded (v : DWord) : (s.setFolded v).folded = v := rfl
@[simp] theorem setFolded_idx (v : DWord) : (s.setFolded v).idx = s.idx := rfl
@[simp] theorem setFolded_pipe (v : DWord) : (s.setFolded v).pipe = s.pipe := rfl
@[simp] theorem setFolded_out (v : DWord) : (s.setFolded v).out = s.out := rfl
@[simp] theorem setFolded_edges (v : DWord) : (s.setFolded v).edges = s.edges := rfl

@[simp] theorem setIdx_cfg (v : DWord) : (s.setIdx v).cfg = s.cfg := rfl
@[simp] theorem setIdx_mix (v : DWord) : (s.setIdx v).mix = s.mix := rfl
@[simp] theorem setIdx_seedEff (v : DWord) : (s.setIdx v).seedEff = s.seedEff := rfl
@[simp] theorem setIdx_magicEff (v : DWord) : (s.setIdx v).magicEff = s.magicEff := rfl
@[simp] theorem setIdx_loHalf (v : DWord) : (s.setIdx v).loHalf = s.loHalf := rfl
@[simp] theorem setIdx_hiHalf (v : DWord) : (s.setIdx v).hiHalf = s.hiHalf := rfl
@[simp] theorem setIdx_key (v : DWord) : (s.setIdx v).key = s.key := rfl
@[simp] theorem setIdx_h (v : DWord) : (s.setIdx v).h = s.h := rfl
@[simp] theorem setIdx_folded (v : DWord) : (s.setIdx v).folded = s.folded := rfl
@[simp] theorem setIdx_idx (v : DWord) : (s.setIdx v).idx = v := rfl
@[simp] theorem setIdx_pipe (v : DWord) : (s.setIdx v).pipe = s.pipe := rfl
@[simp] theorem setIdx_out (v : DWord) : (s.setIdx v).out = s.out := rfl
@[simp] theorem setIdx_edges (v : DWord) : (s.setIdx v).edges = s.edges := rfl

@[simp] theorem respond_cfg (r : Response) : (s.respond r).cfg = s.cfg := rfl
@[simp] theorem respond_mix (r : Response) : (s.respond r).mix = s.mix := rfl
@[simp] theorem respond_seedEff (r : Response) : (s.respond r).seedEff = s.seedEff := rfl
@[simp] theorem respond_magicEff (r : Response) : (s.respond r).magicEff = s.magicEff := rfl
@[simp] theorem respond_loHalf (r : Response) : (s.respond r).loHalf = s.loHalf := rfl
@[simp] theorem respond_hiHalf (r : Response) : (s.respond r).hiHalf = s.hiHalf := rfl
@[simp] theorem respond_key (r : Response) : (s.respond r).key = s.key := rfl
@[simp] theorem respond_h (r : Response) : (s.respond r).h = s.h := rfl
@[simp] theorem respond_folded (r : Response) : (s.respond r).folded = s.folded := rfl
@[simp] theorem respond_idx (r : Response) : (s.respond r).idx = s.idx := rfl
@[simp] theorem respond_pipe (r : Response) : (s.respond r).pipe = s.pipe ++ [some r] := rfl
@[simp] theorem respond_out (r : Response) : (s.respond r).out = s.out := rfl
@[simp] theorem respond_edges (r : Response) : (s.respond r).edges = s.edges := rfl

@[simp] theorem raiseInvalidPartitionCount_cfg (v : DWord) : (s.raiseInvalidPartitionCount v).cfg = s.cfg := rfl
@[simp] theorem raiseInvalidPartitionCount_mix (v : DWord) : (s.raiseInvalidPartitionCount v).mix = s.mix := rfl
@[simp] theorem raiseInvalidPartitionCount_seedEff (v : DWord) : (s.raiseInvalidPartitionCount v).seedEff = s.seedEff := rfl
@[simp] theorem raiseInvalidPartitionCount_magicEff (v : DWord) : (s.raiseInvalidPartitionCount v).magicEff = s.magicEff := rfl
@[simp] theorem raiseInvalidPartitionCount_loHalf (v : DWord) : (s.raiseInvalidPartitionCount v).loHalf = s.loHalf := rfl
@[simp] theorem raiseInvalidPartitionCount_hiHalf (v : DWord) : (s.raiseInvalidPartitionCount v).hiHalf = s.hiHalf := rfl
@[simp] theorem raiseInvalidPartitionCount_key (v : DWord) : (s.raiseInvalidPartitionCount v).key = s.key := rfl
@[simp] theorem raiseInvalidPartitionCount_h (v : DWord) : (s.raiseInvalidPartitionCount v).h = s.h := rfl
@[simp] theorem raiseInvalidPartitionCount_folded (v : DWord) : (s.raiseInvalidPartitionCount v).folded = s.folded := rfl
@[simp] theorem raiseInvalidPartitionCount_idx (v : DWord) : (s.raiseInvalidPartitionCount v).idx = s.idx := rfl
@[simp] theorem raiseInvalidPartitionCount_pipe (v : DWord) : (s.raiseInvalidPartitionCount v).pipe = s.pipe ++ [some { err := true, result := v }] := rfl
@[simp] theorem raiseInvalidPartitionCount_out (v : DWord) : (s.raiseInvalidPartitionCount v).out = s.out := rfl
@[simp] theorem raiseInvalidPartitionCount_edges (v : DWord) : (s.raiseInvalidPartitionCount v).edges = s.edges := rfl

@[simp] theorem bubble_cfg : s.bubble.cfg = s.cfg := rfl
@[simp] theorem bubble_mix : s.bubble.mix = s.mix := rfl
@[simp] theorem bubble_seedEff : s.bubble.seedEff = s.seedEff := rfl
@[simp] theorem bubble_magicEff : s.bubble.magicEff = s.magicEff := rfl
@[simp] theorem bubble_loHalf : s.bubble.loHalf = s.loHalf := rfl
@[simp] theorem bubble_hiHalf : s.bubble.hiHalf = s.hiHalf := rfl
@[simp] theorem bubble_key : s.bubble.key = s.key := rfl
@[simp] theorem bubble_h : s.bubble.h = s.h := rfl
@[simp] theorem bubble_folded : s.bubble.folded = s.folded := rfl
@[simp] theorem bubble_idx : s.bubble.idx = s.idx := rfl
@[simp] theorem bubble_pipe : s.bubble.pipe = s.pipe ++ [none] := rfl
@[simp] theorem bubble_out : s.bubble.out = s.out := rfl
@[simp] theorem bubble_edges : s.bubble.edges = s.edges := rfl

@[simp] theorem endCycle_cfg : s.endCycle.cfg = s.cfg := rfl
@[simp] theorem endCycle_mix : s.endCycle.mix = s.mix := rfl
@[simp] theorem endCycle_seedEff : s.endCycle.seedEff = s.seedEff := rfl
@[simp] theorem endCycle_magicEff : s.endCycle.magicEff = s.magicEff := rfl
@[simp] theorem endCycle_loHalf : s.endCycle.loHalf = s.loHalf := rfl
@[simp] theorem endCycle_hiHalf : s.endCycle.hiHalf = s.hiHalf := rfl
@[simp] theorem endCycle_key : s.endCycle.key = s.key := rfl
@[simp] theorem endCycle_h : s.endCycle.h = s.h := rfl
@[simp] theorem endCycle_folded : s.endCycle.folded = s.folded := rfl
@[simp] theorem endCycle_idx : s.endCycle.idx = s.idx := rfl
@[simp] theorem endCycle_pipe : s.endCycle.pipe = s.pipe.tail := rfl
@[simp] theorem endCycle_out : s.endCycle.out = s.pipe.headD none := rfl
@[simp] theorem endCycle_edges : s.endCycle.edges = s.edges.tail := rfl

@[simp] theorem resetEdge_cfg : s.resetEdge.cfg = s.cfg := rfl
@[simp] theorem resetEdge_mix : s.resetEdge.mix = { a := 0, b := 0, c := 0 } := rfl
@[simp] theorem resetEdge_seedEff : s.resetEdge.seedEff = 0 := rfl
@[simp] theorem resetEdge_magicEff : s.resetEdge.magicEff = 0 := rfl
@[simp] theorem resetEdge_loHalf : s.resetEdge.loHalf = 0 := rfl
@[simp] theorem resetEdge_hiHalf : s.resetEdge.hiHalf = 0 := rfl
@[simp] theorem resetEdge_key : s.resetEdge.key = 0 := rfl
@[simp] theorem resetEdge_h : s.resetEdge.h = 0 := rfl
@[simp] theorem resetEdge_folded : s.resetEdge.folded = 0 := rfl
@[simp] theorem resetEdge_idx : s.resetEdge.idx = 0 := rfl
@[simp] theorem resetEdge_pipe : s.resetEdge.pipe = List.replicate s.cfg.lat none := rfl
@[simp] theorem resetEdge_out : s.resetEdge.out = none := rfl
@[simp] theorem resetEdge_edges : s.resetEdge.edges = s.edges.tail := rfl

end Updates

section Initial

variable (p : Params)

@[simp] theorem initial_cfg : (State.initial p).cfg = p := rfl
@[simp] theorem initial_mix : (State.initial p).mix = { a := 0, b := 0, c := 0 } := rfl
@[simp] theorem initial_seedEff : (State.initial p).seedEff = 0 := rfl
@[simp] theorem initial_magicEff : (State.initial p).magicEff = 0 := rfl
@[simp] theorem initial_loHalf : (State.initial p).loHalf = 0 := rfl
@[simp] theorem initial_hiHalf : (State.initial p).hiHalf = 0 := rfl
@[simp] theorem initial_key : (State.initial p).key = 0 := rfl
@[simp] theorem initial_h : (State.initial p).h = 0 := rfl
@[simp] theorem initial_folded : (State.initial p).folded = 0 := rfl
@[simp] theorem initial_idx : (State.initial p).idx = 0 := rfl
@[simp] theorem initial_pipe : (State.initial p).pipe = List.replicate p.lat none := rfl
@[simp] theorem initial_out : (State.initial p).out = none := rfl
@[simp] theorem initial_edges : (State.initial p).edges = [] := rfl

end Initial

end Sys2Proof.Machine
end

