-- ==== Sys2Proof/Laws/Mixer.lean ====
section
/-! SUPPORT. What the Mixer's shared operations do (spec/40_mixer.md): registers, step tables, HASHWORD. -/

namespace Sys2Proof.Machine

@[simp] theorem Mixer.set_get (m : Mixer) (x r : Reg) (v : Word) :
    (m.set x v).get r = if r = x then v else m.get r := by
  cases x <;> cases r <;> rfl

/-- Two register files with the same three words are equal. -/
theorem Mixer.eq_of_get {m n : Mixer} (h : ∀ r, m.get r = n.get r) : m = n := by
  have ha := h .a
  have hb := h .b
  have hc := h .c
  cases m
  cases n
  simp_all [Mixer.get]

/-- ROTL32 is Lean's own rotation. -/
theorem rotl32_eq_rotateLeft (v : Word) (k : RotAmount) : rotl32 v k = v.rotateLeft k.val := by
  have hk : k.val % 32 = k.val := Nat.mod_eq_of_lt (by have := k.ok; omega)
  simp [rotl32, BitVec.rotateLeft, BitVec.rotateLeftAux, hk]

@[simp] theorem runOps_nil (m : Mixer) : runOps [] m = m := rfl

@[simp] theorem runOps_cons (op : MicroOp) (ops : List MicroOp) (m : Mixer) :
    runOps (op :: ops) m = runOps ops (runOp m op) := rfl

@[simp] theorem runOps_append (ops₁ ops₂ : List MicroOp) (m : Mixer) :
    runOps (ops₁ ++ ops₂) m = runOps ops₂ (runOps ops₁ m) := by
  simp [runOps, List.foldl_append]

/-- FINALIZE with seven groups is FINALIZE with six and one group more (R84). -/
theorem finalize_seven (m : Mixer) :
    finalize .seven m = runOps (finalGroup .c .b Config.finK7) (finalize .six m) := by
  simp [finalize, finalTable]

/-- A group of FINALIZE on `C`, `B` writes `C` only (R85). -/
theorem finalGroup_cb_a (k : RotAmount) (m : Mixer) : (runOps (finalGroup .c .b k) m).a = m.a := rfl

theorem finalGroup_cb_b (k : RotAmount) (m : Mixer) : (runOps (finalGroup .c .b k) m).b = m.b := rfl

/-- Step 1 of HASHWORD leaves nothing of what the registers held (R22). -/
@[simp] theorem initialise_eq (m : Mixer) :
    m.initialise = { a := Config.initval, b := Config.initval, c := Config.initval } := rfl

@[simp] theorem addSeed_zero (m : Mixer) : m.addSeed 0 = m := rfl

theorem addSeed_of_ne {seed : DWord} (h : seed ≠ 0) (m : Mixer) :
    m.addSeed seed = mixRound { a := m.a + hi32 seed, b := m.b + lo32 seed, c := m.c } := by
  have hz : seedNZ seed = true := decide_eq_true h
  simp [Mixer.addSeed, hz]

/-- The output of the register form of HASHWORD is the function HASHWORD. -/
@[simp] theorem hashWordRegs_output (g : FinalGroups) (key : Word) (seed : DWord) (m : Mixer) :
    (hashWordRegs g key seed m).output = hashWord g key seed := rfl

end Sys2Proof.Machine
end

