-- ==== Sys2Proof/Laws/Indexer.lean ====
section
/-! SUPPORT. What the shared operations of the PartitionIndexer do (spec/41_partition_indexer.md section 1): one lemma
per field for each operation on the state, and the laws of NPCHECK and UMOD. -/

namespace Sys2Proof.Machine

section Transfers

variable (s : State)

@[simp] theorem runHashWord_cfg : s.runHashWord.cfg = s.cfg := rfl
@[simp] theorem runHashWord_mix : s.runHashWord.mix = hashWordRegs s.cfg.finalGroups s.key s.seedEff s.mix := rfl
@[simp] theorem runHashWord_seedEff : s.runHashWord.seedEff = s.seedEff := rfl
@[simp] theorem runHashWord_magicEff : s.runHashWord.magicEff = s.magicEff := rfl
@[simp] theorem runHashWord_loHalf : s.runHashWord.loHalf = s.loHalf := rfl
@[simp] theorem runHashWord_hiHalf : s.runHashWord.hiHalf = s.hiHalf := rfl
@[simp] theorem runHashWord_key : s.runHashWord.key = s.key := rfl
@[simp] theorem runHashWord_h : s.runHashWord.h = hashWord s.cfg.finalGroups s.key s.seedEff := rfl
@[simp] theorem runHashWord_folded : s.runHashWord.folded = s.folded := rfl
@[simp] theorem runHashWord_idx : s.runHashWord.idx = s.idx := rfl
@[simp] theorem runHashWord_pipe : s.runHashWord.pipe = s.pipe := rfl
@[simp] theorem runHashWord_out : s.runHashWord.out = s.out := rfl
@[simp] theorem runHashWord_edges : s.runHashWord.edges = s.edges := rfl

@[simp] theorem runExtHash32_cfg (val : Word) : (s.runExtHash32 val).cfg = s.cfg := rfl
@[simp] theorem runExtHash32_mix (val : Word) : (s.runExtHash32 val).mix = hashWordRegs s.cfg.finalGroups val s.seedEff s.mix := rfl
@[simp] theorem runExtHash32_seedEff (val : Word) : (s.runExtHash32 val).seedEff = s.seedEff := rfl
@[simp] theorem runExtHash32_magicEff (val : Word) : (s.runExtHash32 val).magicEff = s.magicEff := rfl
@[simp] theorem runExtHash32_loHalf (val : Word) : (s.runExtHash32 val).loHalf = s.loHalf := rfl
@[simp] theorem runExtHash32_hiHalf (val : Word) : (s.runExtHash32 val).hiHalf = s.hiHalf := rfl
@[simp] theorem runExtHash32_key (val : Word) : (s.runExtHash32 val).key = val := rfl
@[simp] theorem runExtHash32_h (val : Word) : (s.runExtHash32 val).h = extHash32 s.cfg.finalGroups val s.seedEff := rfl
@[simp] theorem runExtHash32_folded (val : Word) : (s.runExtHash32 val).folded = s.folded := rfl
@[simp] theorem runExtHash32_idx (val : Word) : (s.runExtHash32 val).idx = s.idx := rfl
@[simp] theorem runExtHash32_pipe (val : Word) : (s.runExtHash32 val).pipe = s.pipe := rfl
@[simp] theorem runExtHash32_out (val : Word) : (s.runExtHash32 val).out = s.out := rfl
@[simp] theorem runExtHash32_edges (val : Word) : (s.runExtHash32 val).edges = s.edges := rfl

@[simp] theorem runExtHash64_cfg (val : DWord) : (s.runExtHash64 val).cfg = s.cfg := rfl
@[simp] theorem runExtHash64_mix (val : DWord) : (s.runExtHash64 val).mix = hashWordRegs s.cfg.finalGroups (fold64 val) s.seedEff s.mix := rfl
@[simp] theorem runExtHash64_seedEff (val : DWord) : (s.runExtHash64 val).seedEff = s.seedEff := rfl
@[simp] theorem runExtHash64_magicEff (val : DWord) : (s.runExtHash64 val).magicEff = s.magicEff := rfl
@[simp] theorem runExtHash64_loHalf (val : DWord) : (s.runExtHash64 val).loHalf = lo32 val := rfl
@[simp] theorem runExtHash64_hiHalf (val : DWord) : (s.runExtHash64 val).hiHalf = hi32 val := rfl
@[simp] theorem runExtHash64_key (val : DWord) : (s.runExtHash64 val).key = fold64 val := rfl
@[simp] theorem runExtHash64_h (val : DWord) : (s.runExtHash64 val).h = extHash64 s.cfg.finalGroups val s.seedEff := rfl
@[simp] theorem runExtHash64_folded (val : DWord) : (s.runExtHash64 val).folded = s.folded := rfl
@[simp] theorem runExtHash64_idx (val : DWord) : (s.runExtHash64 val).idx = s.idx := rfl
@[simp] theorem runExtHash64_pipe (val : DWord) : (s.runExtHash64 val).pipe = s.pipe := rfl
@[simp] theorem runExtHash64_out (val : DWord) : (s.runExtHash64 val).out = s.out := rfl
@[simp] theorem runExtHash64_edges (val : DWord) : (s.runExtHash64 val).edges = s.edges := rfl

@[simp] theorem runAddMagic_cfg : s.runAddMagic.cfg = s.cfg := rfl
@[simp] theorem runAddMagic_mix : s.runAddMagic.mix = s.mix := rfl
@[simp] theorem runAddMagic_seedEff : s.runAddMagic.seedEff = s.seedEff := rfl
@[simp] theorem runAddMagic_magicEff : s.runAddMagic.magicEff = s.magicEff := rfl
@[simp] theorem runAddMagic_loHalf : s.runAddMagic.loHalf = s.loHalf := rfl
@[simp] theorem runAddMagic_hiHalf : s.runAddMagic.hiHalf = s.hiHalf := rfl
@[simp] theorem runAddMagic_key : s.runAddMagic.key = s.key := rfl
@[simp] theorem runAddMagic_h : s.runAddMagic.h = s.h := rfl
@[simp] theorem runAddMagic_folded : s.runAddMagic.folded = addMagic s.h s.magicEff := rfl
@[simp] theorem runAddMagic_idx : s.runAddMagic.idx = s.idx := rfl
@[simp] theorem runAddMagic_pipe : s.runAddMagic.pipe = s.pipe := rfl
@[simp] theorem runAddMagic_out : s.runAddMagic.out = s.out := rfl
@[simp] theorem runAddMagic_edges : s.runAddMagic.edges = s.edges := rfl

@[simp] theorem runUmod_cfg (n : PartitionCount) : (s.runUmod n).cfg = s.cfg := rfl
@[simp] theorem runUmod_mix (n : PartitionCount) : (s.runUmod n).mix = s.mix := rfl
@[simp] theorem runUmod_seedEff (n : PartitionCount) : (s.runUmod n).seedEff = s.seedEff := rfl
@[simp] theorem runUmod_magicEff (n : PartitionCount) : (s.runUmod n).magicEff = s.magicEff := rfl
@[simp] theorem runUmod_loHalf (n : PartitionCount) : (s.runUmod n).loHalf = s.loHalf := rfl
@[simp] theorem runUmod_hiHalf (n : PartitionCount) : (s.runUmod n).hiHalf = s.hiHalf := rfl
@[simp] theorem runUmod_key (n : PartitionCount) : (s.runUmod n).key = s.key := rfl
@[simp] theorem runUmod_h (n : PartitionCount) : (s.runUmod n).h = s.h := rfl
@[simp] theorem runUmod_folded (n : PartitionCount) : (s.runUmod n).folded = s.folded := rfl
@[simp] theorem runUmod_idx (n : PartitionCount) : (s.runUmod n).idx = umod s.folded n := rfl
@[simp] theorem runUmod_pipe (n : PartitionCount) : (s.runUmod n).pipe = s.pipe := rfl
@[simp] theorem runUmod_out (n : PartitionCount) : (s.runUmod n).out = s.out := rfl
@[simp] theorem runUmod_edges (n : PartitionCount) : (s.runUmod n).edges = s.edges := rfl

@[simp] theorem respondHash_cfg : s.respondHash.cfg = s.cfg := rfl
@[simp] theorem respondHash_mix : s.respondHash.mix = s.mix := rfl
@[simp] theorem respondHash_seedEff : s.respondHash.seedEff = s.seedEff := rfl
@[simp] theorem respondHash_magicEff : s.respondHash.magicEff = s.magicEff := rfl
@[simp] theorem respondHash_loHalf : s.respondHash.loHalf = s.loHalf := rfl
@[simp] theorem respondHash_hiHalf : s.respondHash.hiHalf = s.hiHalf := rfl
@[simp] theorem respondHash_key : s.respondHash.key = s.key := rfl
@[simp] theorem respondHash_h : s.respondHash.h = s.h := rfl
@[simp] theorem respondHash_folded : s.respondHash.folded = s.folded := rfl
@[simp] theorem respondHash_idx : s.respondHash.idx = s.idx := rfl
@[simp] theorem respondHash_pipe : s.respondHash.pipe = s.pipe ++ [some { err := false, result := s.h }] := rfl
@[simp] theorem respondHash_out : s.respondHash.out = s.out := rfl
@[simp] theorem respondHash_edges : s.respondHash.edges = s.edges := rfl

@[simp] theorem respondIndex_cfg : s.respondIndex.cfg = s.cfg := rfl
@[simp] theorem respondIndex_mix : s.respondIndex.mix = s.mix := rfl
@[simp] theorem respondIndex_seedEff : s.respondIndex.seedEff = s.seedEff := rfl
@[simp] theorem respondIndex_magicEff : s.respondIndex.magicEff = s.magicEff := rfl
@[simp] theorem respondIndex_loHalf : s.respondIndex.loHalf = s.loHalf := rfl
@[simp] theorem respondIndex_hiHalf : s.respondIndex.hiHalf = s.hiHalf := rfl
@[simp] theorem respondIndex_key : s.respondIndex.key = s.key := rfl
@[simp] theorem respondIndex_h : s.respondIndex.h = s.h := rfl
@[simp] theorem respondIndex_folded : s.respondIndex.folded = s.folded := rfl
@[simp] theorem respondIndex_idx : s.respondIndex.idx = s.idx := rfl
@[simp] theorem respondIndex_pipe : s.respondIndex.pipe = s.pipe ++ [some { err := false, result := s.idx }] := rfl
@[simp] theorem respondIndex_out : s.respondIndex.out = s.out := rfl
@[simp] theorem respondIndex_edges : s.respondIndex.edges = s.edges := rfl

@[simp] theorem finishIndex_cfg (n : PartitionCount) : (s.finishIndex n).cfg = s.cfg := rfl
@[simp] theorem finishIndex_mix (n : PartitionCount) : (s.finishIndex n).mix = s.mix := rfl
@[simp] theorem finishIndex_seedEff (n : PartitionCount) : (s.finishIndex n).seedEff = s.seedEff := rfl
@[simp] theorem finishIndex_magicEff (n : PartitionCount) : (s.finishIndex n).magicEff = s.magicEff := rfl
@[simp] theorem finishIndex_loHalf (n : PartitionCount) : (s.finishIndex n).loHalf = s.loHalf := rfl
@[simp] theorem finishIndex_hiHalf (n : PartitionCount) : (s.finishIndex n).hiHalf = s.hiHalf := rfl
@[simp] theorem finishIndex_key (n : PartitionCount) : (s.finishIndex n).key = s.key := rfl
@[simp] theorem finishIndex_h (n : PartitionCount) : (s.finishIndex n).h = s.h := rfl
@[simp] theorem finishIndex_folded (n : PartitionCount) : (s.finishIndex n).folded = s.folded := rfl
@[simp] theorem finishIndex_idx (n : PartitionCount) : (s.finishIndex n).idx = umod s.folded n := rfl
@[simp] theorem finishIndex_pipe (n : PartitionCount) : (s.finishIndex n).pipe = s.pipe ++ [some { err := false, result := umod s.folded n }] := rfl
@[simp] theorem finishIndex_out (n : PartitionCount) : (s.finishIndex n).out = s.out := rfl
@[simp] theorem finishIndex_edges (n : PartitionCount) : (s.finishIndex n).edges = s.edges := rfl

@[simp] theorem foldMagic32_cfg (q : Operands) :
    (s.foldMagic32 q).cfg = s.cfg := by
  unfold State.foldMagic32; cases s.cfg.magic32 <;> rfl
@[simp] theorem foldMagic32_mix (q : Operands) :
    (s.foldMagic32 q).mix = s.mix := by
  unfold State.foldMagic32; cases s.cfg.magic32 <;> rfl
@[simp] theorem foldMagic32_seedEff (q : Operands) :
    (s.foldMagic32 q).seedEff = s.seedEff := by
  unfold State.foldMagic32; cases s.cfg.magic32 <;> rfl
@[simp] theorem foldMagic32_magicEff (q : Operands) :
    (s.foldMagic32 q).magicEff = bif s.cfg.magic32 then selectMagic q else s.magicEff := by
  unfold State.foldMagic32; cases s.cfg.magic32 <;> rfl
@[simp] theorem foldMagic32_loHalf (q : Operands) :
    (s.foldMagic32 q).loHalf = s.loHalf := by
  unfold State.foldMagic32; cases s.cfg.magic32 <;> rfl
@[simp] theorem foldMagic32_hiHalf (q : Operands) :
    (s.foldMagic32 q).hiHalf = s.hiHalf := by
  unfold State.foldMagic32; cases s.cfg.magic32 <;> rfl
@[simp] theorem foldMagic32_key (q : Operands) :
    (s.foldMagic32 q).key = s.key := by
  unfold State.foldMagic32; cases s.cfg.magic32 <;> rfl
@[simp] theorem foldMagic32_h (q : Operands) :
    (s.foldMagic32 q).h = s.h := by
  unfold State.foldMagic32; cases s.cfg.magic32 <;> rfl
@[simp] theorem foldMagic32_folded (q : Operands) :
    (s.foldMagic32 q).folded = bif s.cfg.magic32 then addMagic s.h (selectMagic q) else s.h := by
  unfold State.foldMagic32; cases s.cfg.magic32 <;> rfl
@[simp] theorem foldMagic32_idx (q : Operands) :
    (s.foldMagic32 q).idx = s.idx := by
  unfold State.foldMagic32; cases s.cfg.magic32 <;> rfl
@[simp] theorem foldMagic32_pipe (q : Operands) :
    (s.foldMagic32 q).pipe = s.pipe := by
  unfold State.foldMagic32; cases s.cfg.magic32 <;> rfl
@[simp] theorem foldMagic32_out (q : Operands) :
    (s.foldMagic32 q).out = s.out := by
  unfold State.foldMagic32; cases s.cfg.magic32 <;> rfl
@[simp] theorem foldMagic32_edges (q : Operands) :
    (s.foldMagic32 q).edges = s.edges := by
  unfold State.foldMagic32; cases s.cfg.magic32 <;> rfl

end Transfers

/-- The key of a 64-bit command is the whole port (R56). -/
@[simp] theorem key64_eq (q : Operands) : key64 q = q.val := rfl

theorem selectSeed_port {q : Operands} (h : q.sd = true) : selectSeed q = q.seed := by simp [selectSeed, h]

theorem selectSeed_default {q : Operands} (h : q.sd = false) : selectSeed q = Config.defaultSeed := by
  simp [selectSeed, h]

theorem selectMagic_port {q : Operands} (h : q.mg = true) : selectMagic q = q.magic := by simp [selectMagic, h]

theorem selectMagic_default {q : Operands} (h : q.mg = false) : selectMagic q = Config.defaultMagic := by
  simp [selectMagic, h]

/-- The predicate `NEG` of a sign-extended word is its top bit. -/
theorem neg_sext64 (v : Word) : neg (sext64 v) = v.msb := by
  rw [neg, sext64_getLsbD v 63 (by decide), if_neg (by decide)]

/-- The predicate `NEG` is the sign of the two's-complement reading. -/
theorem neg_eq_true (v : DWord) : neg v = true ↔ v.toInt < 0 := by
  have h : neg v = v.msb := rfl
  rw [h, BitVec.msb_eq_toInt, decide_eq_true_eq]

/-- NPCHECK answers nothing exactly for a count that is bad (R104). -/
theorem npCheck_eq_none {n : DWord} : npCheck n = none ↔ n.toInt ≤ 0 := by
  unfold npCheck
  split
  · next h => simpa [npBad] using h
  · next h => simpa [npBad] using h

/-- NPCHECK answers the count itself for one that is at least 1. -/
theorem npCheck_of_pos {n : DWord} (h : 0 < n.toInt) : ∃ c : PartitionCount, npCheck n = some c ∧ c.bits = n := by
  refine ⟨⟨n, by simp [npBad, h]⟩, ?_, rfl⟩
  simp [npCheck, npBad, h]

theorem npCheck_bits {n : DWord} {c : PartitionCount} (h : npCheck n = some c) : c.bits = n := by
  unfold npCheck at h
  split at h
  · cases h; rfl
  · cases h

/-- A count that passed NPCHECK is positive. -/
theorem PartitionCount.pos (c : PartitionCount) : 0 < c.bits.toInt := by
  have h := c.ok
  simpa [npBad] using h

theorem umod_toNat (folded : DWord) (c : PartitionCount) : (umod folded c).toNat = folded.toNat % c.bits.toNat :=
  BitVec.toNat_umod

/-- UMOD by a count that NPCHECK passed, as the remainder of the port's unsigned reading (R106). -/
theorem umod_of_bits {n : DWord} {c : PartitionCount} (folded : DWord) (h : c.bits = n) :
    umod folded c = BitVec.ofNat 64 (folded.toNat % n.toNat) := by
  apply BitVec.eq_of_toNat_eq
  rw [umod_toNat, h, BitVec.toNat_ofNat]
  exact (Nat.mod_eq_of_lt (lt_of_le_of_lt (Nat.mod_le _ _) folded.isLt)).symm

end Sys2Proof.Machine
end

