-- ==== Sys2Proof/Laws/PerInstr.lean ====
section
/-! SUPPORT. Statements about every command as syntax, one lemma per constructor. -/

namespace Sys2Proof.Laws.OpcodeMatch

/-- The command's `CMD` port matches its row of spec/opcode_table.json, `match` under `mask` 0x3 (R53, R64). -/
def Statement (i : Instr) : Prop :=
  (encodeRequest i).cmd &&& 0x3 =
    match i with
    | .hashx32 _ => 0x0
    | .hashx64 _ => 0x1
    | .pidx32 _  => 0x2
    | .pidx64 _  => 0x3

theorem hashx32 (q : Operands) : Statement (.hashx32 q) := by
  show cmdOf q.mg q.sd false false &&& 0x3 = 0x0
  cases q.mg <;> cases q.sd <;> decide

theorem hashx64 (q : Operands) : Statement (.hashx64 q) := by
  show cmdOf q.mg q.sd false true &&& 0x3 = 0x1
  cases q.mg <;> cases q.sd <;> decide

theorem pidx32 (q : Operands) : Statement (.pidx32 q) := by
  show cmdOf q.mg q.sd true false &&& 0x3 = 0x2
  cases q.mg <;> cases q.sd <;> decide

theorem pidx64 (q : Operands) : Statement (.pidx64 q) := by
  show cmdOf q.mg q.sd true true &&& 0x3 = 0x3
  cases q.mg <;> cases q.sd <;> decide

end Sys2Proof.Laws.OpcodeMatch
end

