-- ==== Sys2Proof/Laws/Step.lean ====
section
/-! SUPPORT. The three kinds of clock edge (spec/70_reset_and_hazards.md): one equation of `step` for each. -/

namespace Sys2Proof.Machine

@[simp] theorem edge_of_cons {s : State} {e : Edge} {es : List Edge} (h : s.edges = e :: es) : s.edge = e := by
  simp [State.edge, h]

@[simp] theorem edge_of_nil {s : State} (h : s.edges = []) : s.edge = Edge.idle := by
  simp [State.edge, h]

/-- An edge with `RST` = 1 (R151). -/
theorem step_of_reset {s : State} (h : s.edge.rst = true) : step s = .next s.resetEdge := by
  simp [step, h]

/-- An edge that accepts a request whose command answers a next state (R157). -/
theorem step_of_accept {s t : State} (hr : s.edge.rst = false) (hv : s.edge.reqValid = true)
    (ht : exec (decodeRequest s.edge.req) s = .next t) : step s = .next t.endCycle := by
  simp [step, hr, hv, ht]

/-- An edge that carries nothing (R158). -/
theorem step_of_idle {s : State} (hr : s.edge.rst = false) (hv : s.edge.reqValid = false) :
    step s = .next s.bubble.endCycle := by
  simp [step, hr, hv]

end Sys2Proof.Machine
end

