-- ==== Sys2Proof/Tests/Slice0.lean ====
section
/-! SUPPORT. Tests. Expected values are those of spec/95_test_vectors.md (its section is named at each) or of the rule
named; F6, F7 are the instances of `FINAL_GROUPS`, M1, M0 those of `MAGIC32`. The last part holds, for every statement
with hypotheses, a concrete case that meets them. -/

namespace Sys2Proof.Tests

open Sys2Proof Sys2Proof.Machine

/-! ### Helpers -/

/-- A request by its fields, written as in spec/95_test_vectors.md section 4. -/
def req (cmd : Cmd) (val nparts seed magic : DWord) : Request :=
  { cmd := cmd, val := val, nparts := nparts, seed := seed, magic := magic }

/-- The operands with default seed and magic. -/
def ops (val nparts : DWord) : Operands :=
  { mg := false, sd := false, val := val, nparts := nparts, seed := 0, magic := 0 }

/-- An edge that presents a request. -/
def present (r : Request) : Edge := { rst := false, reqValid := true, req := r }

/-- A block just after reset, with what the host drives next. -/
def block (p : Params) (es : List Edge) : State := { State.initial p with edges := es }

def f6m1 : Params := { finalGroups := .six, magic32 := true, lat := 0 }
def f6m0 : Params := { finalGroups := .six, magic32 := false, lat := 0 }
def f7m1 : Params := { finalGroups := .seven, magic32 := true, lat := 0 }
def f7m0 : Params := { finalGroups := .seven, magic32 := false, lat := 0 }

/-- `RESULT` of each `CMD` value on the ports of section 3.8. -/
def decoderRow (p : Params) : List Nat :=
  (List.range 16).map (fun c =>
    (responseOf p (decodeRequest (req (BitVec.ofNat 4 c) 0xFFFFFFFFFFFFFFFF 16 0 0))).result.toNat)

/-- `RESULT` of `PIDX64 v, n` with the defaults. -/
def pidx64Row (p : Params) (l : List (Int × Nat)) : List Nat :=
  l.map (fun x => (responseOf p (.pidx64 (ops (BitVec.ofInt 64 x.1) (BitVec.ofNat 64 x.2)))).result.toNat)

/-- `RESULT` of `PIDX32 v, n` with the defaults. -/
def pidx32Row (p : Params) (l : List (Int × Nat)) : List Nat :=
  l.map (fun x => (responseOf p (.pidx32 (ops (BitVec.ofInt 64 x.1) (BitVec.ofNat 64 x.2)))).result.toNat)

/-! ### Well-formedness: each check refuses an ill-formed term -/

theorem test_wf_refuses_sub_of_itself : (MicroOp.sub .a .a).wf = false := by decide
theorem test_wf_refuses_add_of_itself : (MicroOp.add .b .b).wf = false := by decide
theorem test_wf_refuses_xorRot_of_itself : (MicroOp.xorRot .c .c Config.mixK1).wf = false := by decide
theorem test_wf_refuses_xor_of_itself : (MicroOp.xor .a .a).wf = false := by decide
theorem test_wf_refuses_subRot_of_itself : (MicroOp.subRot .b .b Config.finK1).wf = false := by decide
theorem test_wf_admits_every_table_step :
    (mixTable ++ finalTable .seven).all (·.wf) = true := by decide

/-- R72 and section 2.1: 1 and 31 are accepted, 0 and 32 refused. -/
theorem test_wf_rotation_amounts : [0, 1, 31, 32].map rotAmountOk = [false, true, true, false] := by decide

/-- R60: -2^31 is a 32-bit value, 2^31 is not. -/
theorem test_wf_refuses_wide_decimal_value :
    (({ mnemonic := .pidx32, value := .dec (-2147483648), nparts := some 1, seed := none, magic := none } : TextRequest).wf,
     ({ mnemonic := .pidx32, value := .dec 2147483648, nparts := some 1, seed := none, magic := none } : TextRequest).wf)
      = (true, false) := by decide

/-- R60: `0xFFFFFFFF` is a 32-bit literal, `0x100000000` is not. -/
theorem test_wf_refuses_wide_hex_value :
    (({ mnemonic := .hashx32, value := .hex 0xFFFFFFFF, nparts := none, seed := none, magic := none } : TextRequest).wf,
     ({ mnemonic := .hashx32, value := .hex 0x100000000, nparts := none, seed := none, magic := none } : TextRequest).wf)
      = (true, false) := by decide

/-- R60: `nparts` is mandatory for PIDX and for PIDX only, and lies in [-2^63, 2^63 - 1]. -/
theorem test_wf_refuses_bad_nparts :
    [(Mnemonic.pidx64, (none : Option Int)), (.hashx64, some 16), (.pidx64, some 9223372036854775808),
     (.pidx64, some (-9223372036854775808))].map
      (fun x => ({ mnemonic := x.1, value := .dec 1, nparts := x.2, seed := none, magic := none } : TextRequest).wf)
      = [false, false, false, true] := by decide

/-- R60: seed and magic literals have 64 bits. -/
theorem test_wf_refuses_wide_seed_and_magic :
    [(some (2 ^ 64), (none : Option Nat)), (none, some (2 ^ 64)), (some (2 ^ 64 - 1), some (2 ^ 64 - 1))].map
      (fun x => ({ mnemonic := .hashx64, value := .dec 1, nparts := none, seed := x.1, magic := x.2 } : TextRequest).wf)
      = [false, false, true] := by decide

/-! ### Decoding: words written out from R50, R51, R53 -/

/-- P5 request 8: HASHX32 with every ignored port driven. -/
theorem test_decode_hashx32 :
    decode 0x0DEADBEEF00000001FFFFFFFFFFFFFFFF00000000000012340000000000005678
      = .hashx32 { mg := false, sd := false, val := 0xDEADBEEF00000001, nparts := 0xFFFFFFFFFFFFFFFF, seed := 0x1234,
                   magic := 0x5678 } := by decide +kernel

/-- P5 request 3: HASHX64 with `SD` = 1. -/
theorem test_decode_hashx64 :
    decode 0x50000000000000001000000000000000000000001000000000000000000000000
      = .hashx64 { mg := false, sd := true, val := 1, nparts := 0, seed := 0x100000000, magic := 0 } := by decide +kernel

/-- P2 request 3: PIDX32. -/
theorem test_decode_pidx32 :
    decode 0x20000000000000001800000000000000000000000000000000000000000000000
      = .pidx32 { mg := false, sd := false, val := 1, nparts := 0x8000000000000000, seed := 0, magic := 0 } := by decide +kernel

/-- P3 request 2: PIDX64 with `MG` = 1. -/
theorem test_decode_pidx64 :
    decode 0xB0000000000083ECC00000000000003E800000000000000000000000000000000
      = .pidx64 { mg := true, sd := false, val := 540364, nparts := 1000, seed := 0, magic := 0 } := by decide +kernel

/-- R50: a number with a bit above bit 259 is no request. -/
theorem test_decode_refuses_wide_number :
    decodeWord (2 ^ 260) = .error .widerThanReq ∧ (decodeWord (2 ^ 260 - 1)).toOption.isSome = true := by decide +kernel

/-- R51: the encoder puts `MG`, `SD`, `FN`, `W` in bits 3 to 0. -/
theorem test_encode_cmd : (encodeRequest (.pidx32 { ops 1 16 with sd := true })).cmd = 0b0110 := by decide

/-- R64: the table's four rows. -/
theorem test_table_words :
    (List.range 4).map (decodeTableWord 8) =
      [some (.hashx32 (ops 0 0)), some (.hashx64 (ops 0 0)), some (.pidx32 (ops 0 0)), some (.pidx64 (ops 0 0))] := by
  decide

/-- Section 3.8, the column F6 M1: all sixteen values of `CMD`. -/
theorem test_decoder_vectors_f6m1 :
    decoderRow f6m1 =
      [0xBA5FC748E84FA1C1, 0xBA5FC748E84FA1C1, 4, 4, 0xE5CB8F9042285B49, 0xE5CB8F9042285B49, 12, 12,
       0xBA5FC748E84FA1C1, 0xBA5FC748E84FA1C1, 1, 1, 0xE5CB8F9042285B49, 0xE5CB8F9042285B49, 9, 9] := by decide

/-- Section 3.8, the column F6 M0. -/
theorem test_decoder_vectors_f6m0 :
    decoderRow f6m0 =
      [0xBA5FC748E84FA1C1, 0xBA5FC748E84FA1C1, 1, 4, 0xE5CB8F9042285B49, 0xE5CB8F9042285B49, 9, 12,
       0xBA5FC748E84FA1C1, 0xBA5FC748E84FA1C1, 1, 1, 0xE5CB8F9042285B49, 0xE5CB8F9042285B49, 9, 9] := by decide

/-- Section 3.8, the column F7 M1. -/
theorem test_decoder_vectors_f7m1 :
    decoderRow f7m1 =
      [0xBA5FC748095606C2, 0xBA5FC748095606C2, 5, 5, 0xE5CB8F9016FE094A, 0xE5CB8F9016FE094A, 13, 13,
       0xBA5FC748095606C2, 0xBA5FC748095606C2, 2, 2, 0xE5CB8F9016FE094A, 0xE5CB8F9016FE094A, 10, 10] := by decide

/-- Section 3.8, the column F7 M0. -/
theorem test_decoder_vectors_f7m0 :
    decoderRow f7m0 =
      [0xBA5FC748095606C2, 0xBA5FC748095606C2, 2, 5, 0xE5CB8F9016FE094A, 0xE5CB8F9016FE094A, 10, 13,
       0xBA5FC748095606C2, 0xBA5FC748095606C2, 2, 2, 0xE5CB8F9016FE094A, 0xE5CB8F9016FE094A, 10, 10] := by decide

/-! ### The Mixer -/

/-- Section 2.1. -/
theorem test_rotl32 :
    [(0x80000000, 31), (0x12345678, 16), (0xDEADBEEF, 19), (0xFFFFFFFF, 25), (0x9E735654, 11), (0x9E735654, 24)].map
      (fun x : Word × Nat => (rotl32Checked x.1 x.2).toOption)
      = [some 0x40000000, some 0x56781234, some 0xF77EF56D, some 0xFFFFFFFF, some 0x9AB2A4F3, some 0x549E7356] := by
  decide

/-- R72: amounts 0 and 32 are refused by name. -/
theorem test_rotl32_refuses :
    rotl32Checked 1 0 = .error (.rotationAmount 0) ∧ rotl32Checked 1 32 = .error (.rotationAmount 32) := by decide

/-- Section 2.2: a carry and a borrow are discarded. -/
theorem test_micro_operations :
    (runOp ⟨0x9E735654, 0x180A3351, 0⟩ (.add .a .b)).a = 0xB67D89A5 ∧
    (runOp ⟨0x80000000, 0, 0x80000000⟩ (.add .a .c)).a = 0 ∧
    (runOp ⟨0, 1, 0⟩ (.sub .a .b)).a = 0xFFFFFFFF ∧
    (runOp ⟨0, 0xFFFFFFFF, 0x0F0F0F0F⟩ (.xor .b .c)).b = 0xF0F0F0F0 := by decide

/-- Section 2.3: the inputs with one word set, all ones, and a mixed one. -/
theorem test_mixRound :
    [(⟨1, 0, 0⟩ : Mixer), ⟨0, 1, 0⟩, ⟨0, 0, 1⟩, ⟨0xFFFFFFFF, 0xFFFFFFFF, 0xFFFFFFFF⟩,
     ⟨0x01234567, 0x89ABCDEF, 0xDEADBEEF⟩].map mixRound =
      [⟨0xBFBE7F3A, 0x7D633D2B, 0x9810DE96⟩, ⟨0xFF000003, 0xF80FF701, 0x960F65EB⟩,
       ⟨0xEAE4D1C9, 0x2DCD1961, 0x9397E6B6⟩, ⟨0xFFFFFFF9, 0x000FFFF9, 0xFEEFFFFC⟩,
       ⟨0x7DA24828, 0xA0929946, 0x3A302968⟩] := by decide

/-- Section 2.3, the trace: the state after steps 9 and 15. -/
theorem test_mixRound_trace :
    runOps (mixTable.take 9) ⟨0x18CE788A, 0x180A3351, 0x9E735654⟩ = ⟨0x53EBD124, 0x74F60559, 0x9F476051⟩ ∧
    runOps (mixTable.take 15) ⟨0x18CE788A, 0x180A3351, 0x9E735654⟩ = ⟨0xE933553E, 0xDCA6B26A, 0x143D65AA⟩ := by decide

/-- Section 2.4, F6 and F7. -/
theorem test_finalize :
    [(⟨1, 0, 0⟩ : Mixer), ⟨0, 1, 0⟩, ⟨0, 0, 1⟩].map (finalize .six) =
      [⟨0x1E1DE1E1, 0x67A59A59, 0xFDFE0201⟩, ⟨0x3A989830, 0xA15719ED, 0x516072A7⟩,
       ⟨0xBD324300, 0xB60D8BC5, 0x03EDFC11⟩] ∧
    (finalize .seven ⟨0x01234567, 0x89ABCDEF, 0xDEADBEEF⟩) = ⟨0x74020513, 0x282BC4E6, 0x4C016653⟩ := by decide

/-- Section 2.5, the trace after micro-steps 6 and 10. -/
theorem test_finalize_trace :
    runOps ((finalTable .six).take 6) ⟨0x9E735655, 0x9E735654, 0x9E735654⟩ = ⟨0x5D566CDE, 0x066A8DB1, 0x2A6AD864⟩ ∧
    runOps ((finalTable .six).take 10) ⟨0x9E735655, 0x9E735654, 0x9E735654⟩ = ⟨0xDE242CFC, 0x066A8DB1, 0x9E4F4F6B⟩ := by
  decide

/-- Section 2.6, F6: both paths, seeds with one half 0, all ones. -/
theorem test_hashWord_six :
    [(0x00000000, 0), (0x80000000, 0), (0xFFFFFFFF, 0x7A5B22367996DCFD), (0x00000001, 1),
     (0x00000001, 0x0000000100000000), (0x00083ECC, 0xFFFFFFFFFFFFFFFF)].map
      (fun x : Word × DWord => hashWord .six x.1 x.2) =
      [0x39A825BE94504D6A, 0x1B707E5F1F4FCE6A, 0xBA5FC748E84FA1C1, 0x963DE977A382707D, 0xC2D83648FA471D46,
       0xFE37BC1CB2FF6746] := by decide

/-- Section 2.6, F7. -/
theorem test_hashWord_seven :
    [(0x00000000, 0), (0x80000000, 0), (0xFFFFFFFF, 0x7A5B22367996DCFD), (0x00000001, 1),
     (0x00000001, 0x0000000100000000), (0x00083ECC, 0xFFFFFFFFFFFFFFFF)].map
      (fun x : Word × DWord => hashWord .seven x.1 x.2) =
      [0x39A825BEEFBEC0AF, 0x1B707E5FA5243FB7, 0xBA5FC748095606C2, 0x963DE977BE295B21, 0xC2D83648EFDC52D8,
       0xFE37BC1C2FCAA39E] := by decide

/-! ### The PartitionIndexer -/

/-- Section 3.1, the column FOLD64. -/
theorem test_fold64 :
    ([0, 1, -1, -2, 540364, 2147483647, -2147483648, 2147483648, -2147483649, 4294967295, 4294967296, -4294967296,
      8589934591, 9223372036854775807, -9223372036854775808, 1311768467463790320, -1311768467463790320] : List Int).map
      (fun v => fold64 (BitVec.ofInt 64 v)) =
      [0, 1, 0xFFFFFFFF, 0xFFFFFFFE, 0x00083ECC, 0x7FFFFFFF, 0x80000000, 0x80000000, 0x7FFFFFFF, 0xFFFFFFFF, 1, 0,
       0xFFFFFFFE, 0x80000000, 0x7FFFFFFF, 0x88888888, 0x77777768] := by decide

/-- Section 3.2: a 32-bit key is not folded. -/
theorem test_extHash32 :
    extHash32 .six 0x0000FFFF Config.defaultSeed = 0x16353C21DE54ABC6 ∧
    extHash32 .six 0xFFFF8000 Config.defaultSeed = 0x51AC94E2595E1CCC := by decide

/-- Section 3.3, the column of the correct remainders. -/
theorem test_umod :
    [(0x9C685A52F997DF56, 3), (0x9C685A52F997DF56, 7), (0x9C685A52F997DF56, 10), (0x8E1B735C8E466225, 2048),
     (0xFFFFFFFFFFFFFFFF, 9223372036854775807), (0xFFFFFFFFFFFFFFFF, 1), (5, 16)].map
      (fun x : DWord × DWord => (npCheck x.2).map (umod x.1)) =
      [some 1, some 0, some 6, some 549, some 1, some 0, some 5] := by decide

/-- Section 3.4, F6. -/
theorem test_pidx64_six :
    pidx64Row f6m1
      [(9223372036854775807, 1), (0, 16), (1, 16), (-1, 16), (1, 3), (-1, 3), (1, 7), (540364, 1000), (2147483648, 32),
       (-9223372036854775808, 2048), (1, 4294967296), (1, 4611686018427387904), (-1, 9223372036854775807)] =
      [0, 5, 6, 4, 1, 2, 0, 290, 5, 1060, 4187479894, 2046985343061188438, 284290370945540900] := by decide

/-- Section 3.4, F7. -/
theorem test_pidx64_seven :
    pidx64Row f7m1 [(0, 16), (1, 16), (-1, 16), (1, 7), (540364, 1000), (1, 9223372036854775807)] =
      [0, 8, 5, 6, 658, 2046985341660506169] := by decide

/-- Section 3.5, the columns F6 M1 and F6 M0. -/
theorem test_pidx32_six :
    pidx32Row f6m1 [(1, 16), (540364, 16), (2147483647, 32), (-1, 3), (1, 7), (-2147483648, 2048)] =
      [6, 2, 4, 2, 0, 549] ∧
    pidx32Row f6m0 [(1, 16), (540364, 16), (2147483647, 32), (-1, 3), (1, 7), (-2147483648, 2048)] =
      [3, 15, 1, 2, 3, 194] := by decide

/-- Section 3.5, the columns F7 M1 and F7 M0. -/
theorem test_pidx32_seven :
    pidx32Row f7m1 [(1, 16), (2147483647, 32), (-1, 3), (1, 7)] = [8, 31, 1, 6] ∧
    pidx32Row f7m0 [(1, 16), (2147483647, 32), (-1, 3), (1, 7)] = [5, 28, 1, 2] := by decide

/-- Section 3.6: the error carries the count bit for bit; a hash command never fails. -/
theorem test_invalid_partition_count :
    responseOf f6m1 (.pidx64 (ops 1 0)) = { err := true, result := 0 } ∧
    responseOf f6m1 (.pidx32 (ops 0xFFFFFFFFFFFFFFFF 0xFFFFFFFFFFFFFFF0)) = { err := true, result := 0xFFFFFFFFFFFFFFF0 } ∧
    responseOf f6m1 (.pidx64 (ops 1 1)) = { err := false, result := 0 } ∧
    responseOf f6m1 (.hashx64 (ops 1 0)) = { err := false, result := 0x52D62105D4A19DF3 } := by decide

/-- Section 3.7: seed and magic from the ports. -/
theorem test_caller_supplied_seed_and_magic :
    responseOf f6m1 (.pidx64 { ops 1 16 with sd := true, mg := true }) = { err := false, result := 11 } ∧
    responseOf f6m1 (.pidx64 { ops 1 16 with sd := true }) = { err := false, result := 14 } ∧
    responseOf f6m1 (.pidx64 { ops 1 16 with mg := true }) = { err := false, result := 3 } ∧
    responseOf f6m1 (.pidx64 { ops 1 10 with mg := true, magic := 0xFFFFFFFFFFFFFFFF }) = { err := false, result := 6 } ∧
    responseOf f6m0 (.pidx32 { ops 1 16 with sd := true, mg := true }) = { err := false, result := 11 } := by decide

/-! ### Commands and clock edges: one step each -/

/-- P1 with `LAT` = 0: the response is on the ports in the cycle that follows the edge. -/
theorem test_step_pidx64 :
    (match step (block f6m1 [present (req 0x3 1 16 0 0)]) with
      | .next t => some (t.out, t.folded, t.h, t.edges)
      | _ => none) = some (some { err := false, result := 6 }, 0x9C685A52F997DF56, 0x52D62105D4A19DF3, []) := by decide

/-- P4 request 4 (F6 M0): `MAGICEFF` is not written. -/
theorem test_step_pidx32_without_magic :
    (match step (block f6m0 [present (req 0x2 0xFFFFFFFFFFFFFFFF 16 0 0)]) with
      | .next t => some (t.out, t.magicEff, t.folded)
      | _ => none) = some (some { err := false, result := 1 }, 0, 0xBA5FC748E84FA1C1) := by decide

/-- P5 request 8: the key of a 32-bit command is `VAL[31:0]`, and no half register is written. -/
theorem test_step_hashx32 :
    (match step (block f6m1 [present (req 0x0 0xDEADBEEF00000001 0xFFFFFFFFFFFFFFFF 0x1234 0x5678)]) with
      | .next t => some (t.out, t.key, t.hiHalf, t.mix)
      | _ => none)
      = some (some { err := false, result := 0x52D62105D4A19DF3 }, 1, 0, ⟨0x568C468F, 0x52D62105, 0xD4A19DF3⟩) := by decide

/-- P4 request 3 (F7): the 64-bit key 4294967295 folds to `0xFFFFFFFF`. -/
theorem test_step_hashx64 :
    (match step (block f7m1 [present (req 0x1 0x00000000FFFFFFFF 0 0 0)]) with
      | .next t => some (t.out, t.key, t.loHalf, t.hiHalf)
      | _ => none) = some (some { err := false, result := 0xBA5FC748095606C2 }, 0xFFFFFFFF, 0xFFFFFFFF, 0) := by decide

/-- P2 request 1: the error ends the command before any register is written (R118). -/
theorem test_step_error :
    (match step (block f6m1 [present (req 0x3 1 0 0 0)]) with
      | .next t => some (t.out, t.seedEff, t.mix)
      | _ => none) = some (some { err := true, result := 0 }, 0, ⟨0, 0, 0⟩) := by decide

/-- R158 with `LAT` = 1: in the cycle after the accepting edge the response is still in flight. -/
theorem test_step_latency_one :
    (match step (block { f6m1 with lat := 1 } [present (req 0x3 1 16 0 0)]) with
      | .next t => some (t.out, t.pipe)
      | _ => none) = some (none, [some { err := false, result := 6 }]) := by decide

/-- R151: an edge with `RST` = 1 accepts nothing, though `REQ_VALID` = 1, and discards what is in flight. -/
theorem test_step_reset :
    (match step { block { f6m1 with lat := 1 } [{ present (req 0x3 1 16 0 0) with rst := true }] with
        pipe := [some { err := false, result := 6 }] } with
      | .next t => some (t.out, t.pipe, t.edges)
      | _ => none) = some (none, [none], []) := by decide

/-- R28: without a response the ports cannot be read. -/
theorem test_read_without_response : (block f6m1 []).readResponse = .error .noResponse := by decide

/-- R50: `ERR` is bit 64 of `RSP`. -/
theorem test_response_word :
    ({ err := true, result := 0xFFFFFFFFFFFFFFFF } : Response).pack = 0x1FFFFFFFFFFFFFFFF ∧
    ({ err := false, result := 6 } : Response).pack = 6 := by decide

/-! ### Textual requests -/

/-- P3 request 2. -/
theorem test_text_pidx64 :
    (requestOfText "PIDX64 540364, 1000, magic=0").toOption = some (req 0xB 0x83ECC 1000 0 0) := by decide

/-- P5 request 3, and P4 request 1 (a negative 32-bit value is sign-extended). -/
theorem test_text_hash :
    (requestOfText "HASHX64 1, seed=0x100000000").toOption = some (req 0x5 1 0 0x100000000 0) ∧
    (requestOfText "HASHX32 -1").toOption = some (req 0x0 0xFFFFFFFFFFFFFFFF 0 0 0) := by decide

/-- P2 request 3, and section 3.7. -/
theorem test_text_pidx :
    (requestOfText "PIDX32 1, -9223372036854775808").toOption = some (req 0x2 1 0x8000000000000000 0 0) ∧
    (requestOfText "PIDX64 -1, 16, seed=1, magic=0xFFFFFFFFFFFFFFFF").toOption
      = some (req 0xF 0xFFFFFFFFFFFFFFFF 16 1 0xFFFFFFFFFFFFFFFF) := by decide

/-- R60: what is refused, by name. -/
theorem test_text_refusals :
    [requestOfText "PIDX16 1, 2", requestOfText "PIDX64 1", requestOfText "HASHX32 0x100000000",
     requestOfText "HASHX64 1, 16", requestOfText "PIDX64 1, 9223372036854775808"].map
      (fun r => match r with | .ok _ => none | .error e => some e) =
      [some .mnemonic, some .npartsMissing, some .valueRange, some .extraField, some .npartsRange] := by decide

/-- Log entry 20: an error of form is named before an error of range in an earlier field, and of two errors of range the
first. -/
theorem test_text_error_order :
    [requestOfText "HASHX32 0x100000000, seed=zz", requestOfText "PIDX32 0x100000000",
     requestOfText "PIDX32 0x100000000, 9223372036854775808", requestOfText "HASHX64 1, magic=1, seed=1"].map
      (fun r => match r with | .ok _ => none | .error e => some e) =
      [some .seedLiteral, some .npartsMissing, some .valueRange, some .extraField] := by decide

/-- P1, P2 request 2, P5 request 4. -/
theorem test_text_responses :
    textOfResponse true { err := false, result := 6 } = "-> OK 6" ∧
    textOfResponse true { err := true, result := 0xFFFFFFFFFFFFFFFF } = "-> ERR InvalidPartitionCount(-1)" ∧
    textOfResponse false { err := false, result := 0x52D62105D4A19DF3 } = "-> OK 0x52D62105D4A19DF3" := by decide

/-! ### Witnesses: for every statement with hypotheses, a concrete case that meets them all -/

/-- DecodeOfEncodeIsIdentity: a command of each kind. -/
theorem witness_wf :
    (Instr.hashx32 (ops 1 0)).wf = true ∧ (Instr.hashx64 (ops 1 0)).wf = true ∧
    (Instr.pidx32 (ops 1 1)).wf = true ∧ (Instr.pidx64 (ops 1 1)).wf = true := by decide

/-- RequestAndResponseBitPositions: each clause at both ends of its range of bits, on a request whose fields have their
top and bottom bits set and nothing else. -/
theorem witness_bit_positions :
    ([0, 1, 62, 63, 64, 127, 128, 191, 192, 255, 256, 257, 258, 259].map
      (req 0x9 0x8000000000000001 0x8000000000000001 0x8000000000000001 0x8000000000000001).pack.getLsbD)
      = [true, false, false, true, true, true, true, true, true, true, true, false, false, true] ∧
    ([0, 63, 64].map ({ err := true, result := 1 } : Response).pack.getLsbD) = [true, false, true] := by
  decide +kernel

/-- CommandFieldsSelectCommand: the four clauses exclude each other; one request for each. -/
theorem witness_command_map :
    [decodeRequest (req 0xC 1 2 3 4), decodeRequest (req 0x9 1 2 3 4), decodeRequest (req 0x6 1 2 3 4),
      decodeRequest (req 0xF 1 2 3 4)] =
      [.hashx32 { mg := true, sd := true, val := 1, nparts := 2, seed := 3, magic := 4 },
       .hashx64 { mg := true, sd := false, val := 1, nparts := 2, seed := 3, magic := 4 },
       .pidx32 { mg := false, sd := true, val := 1, nparts := 2, seed := 3, magic := 4 },
       .pidx64 { mg := true, sd := true, val := 1, nparts := 2, seed := 3, magic := 4 }] := by decide

/-- EveryEncodingIsLegal: a hash request with `MG` = 1. -/
theorem witness_hash_with_mg : (req 0x9 1 0 0 0).cmd.getLsbD 1 = false := by decide

/-- RotationMovesEveryBit: bits 0 and 31 of the least and the greatest amount. -/
theorem witness_rotation_bits :
    (rotl32 0x80000000 ⟨1, by decide⟩).getLsbD 0 = true ∧ (rotl32 0x00000001 ⟨31, by decide⟩).getLsbD 31 = true := by
  decide

/-- RotationAmountsOutsideDomainAreRefused: both clauses where they meet. -/
theorem witness_rotation_domain :
    [0, 1, 31, 32].map (fun k => (rotl32Checked 0x80000000 k).toOption)
      = [none, some 0x00000001, some 0x40000000, none] := by decide

/-- MicroOperationsAreInvertible: an operation of each kind. -/
theorem witness_micro_operations :
    [MicroOp.sub .a .c, .add .c .b, .xorRot .a .c Config.mixK1, .xor .c .b, .subRot .c .b Config.finK1].all (·.wf) = true := by
  decide

/-- ZeroSeedSkipsMixRound: a half that is not 0. -/
theorem witness_seed_half : (1 : Word) ≠ 0 := by decide

/-- FoldComplementsHighHalfOfNegativeKeys: the ends of the 32-bit range, and a word whose preimage exists. -/
theorem witness_fold_range :
    -(2 ^ 31 : Int) ≤ (0xFFFFFFFF80000000 : DWord).toInt ∧ (0xFFFFFFFF80000000 : DWord).toInt ≤ 2 ^ 31 - 1 ∧
    fold64 0xFFFFFFFF80000000 = 0x80000000 ∧
    -(2 ^ 31 : Int) ≤ (0x000000007FFFFFFF : DWord).toInt ∧ (0x000000007FFFFFFF : DWord).toInt ≤ 2 ^ 31 - 1 ∧
    fold64 0x000000007FFFFFFF = 0x7FFFFFFF ∧ fold64 (cat32 0x12345678 0x9ABCDEF0) = 0x88888888 := by decide

/-- CountCheckRejectsNonPositive, and every statement about a positive or a non-positive count: the counts where the two
meet, and the ends of the range. -/
theorem witness_counts :
    0 < (1 : DWord).toInt ∧ 0 < (0x7FFFFFFFFFFFFFFF : DWord).toInt ∧
    (0 : DWord).toInt ≤ 0 ∧ (0xFFFFFFFFFFFFFFFF : DWord).toInt ≤ 0 ∧ (0x8000000000000000 : DWord).toInt ≤ 0 := by decide

/-- RemainderByPowerOfTwoIsLowBits: k = 1 and k = 62, and the count 1. -/
theorem witness_powers_of_two :
    (npCheck 2).map (fun c => (c.bits.toNat, umod 3 c)) = some (2 ^ 1, 1) ∧
    (npCheck 0x4000000000000000).map (fun c => (c.bits.toNat, umod 0xFFFFFFFFFFFFFFFF c))
      = some (2 ^ 62, 0x3FFFFFFFFFFFFFFF) ∧
    (npCheck 1).map (fun c => (c.bits, umod 0xFFFFFFFFFFFFFFFF c)) = some (1, 0) := by decide

/-- PartitionIndex64Completes, PartitionIndex32Completes, NonPositiveCountRaisesError, IndexLiesInRange,
CommandsLeaveTheirRegisters: both sides of the boundary, in a state and with operands. -/
theorem witness_partition_index :
    answer (.pidx64 (ops 1 1)) (block f6m1 []) = some { err := false, result := 0 } ∧
    answer (.pidx32 (ops 1 1)) (block f6m0 []) = some { err := false, result := 0 } ∧
    answer (.pidx64 (ops 1 0)) (block f6m1 []) = some { err := true, result := 0 } ∧
    answer (.pidx32 (ops 1 0x8000000000000000)) (block f6m0 []) = some { err := true, result := 0x8000000000000000 } := by
  decide

/-- HashCommandsFrame, PartitionIndexCommandsFrame, EarlierTransactionsDoNotMatter: each command answers a next state;
`MAGIC32` = 0 is met too. -/
theorem witness_commands_answer :
    (∃ t, exec (.hashx32 (ops 1 0)) (block f6m1 []) = .next t) ∧
    (∃ t, exec (.hashx64 (ops 1 0)) (block f6m1 []) = .next t) ∧
    (∃ t, exec (.pidx32 (ops 1 0)) (block f6m0 []) = .next t) ∧
    (∃ t, exec (.pidx64 (ops 1 16)) (block f6m1 []) = .next t) ∧ (block f6m0 []).cfg.magic32 = false :=
  ⟨⟨_, rfl⟩, ⟨_, rfl⟩, ⟨_, rfl⟩, ⟨_, rfl⟩, rfl⟩

/-- IgnoredInputsHaveNoEffect: two different operands for each clause; in the third `MAGIC32` = 1 with equal magic. -/
theorem witness_ignored_inputs :
    (let q := { ops 1 0 with seed := 5 }
     let q' := { ops 0xDEADBEEF00000001 7 with seed := 6, magic := 9, mg := true }
     q ≠ q' ∧ q.val.extractLsb' 0 32 = q'.val.extractLsb' 0 32 ∧ q.sd = q'.sd ∧ (q.sd = true → q.seed = q'.seed)) ∧
    (let q := { ops 1 0 with sd := true, seed := 5 }
     let q' := { ops 1 7 with sd := true, seed := 5, magic := 9 }
     q ≠ q' ∧ q.val = q'.val ∧ q.sd = q'.sd ∧ (q.sd = true → q.seed = q'.seed)) ∧
    (let q := { ops 1 16 with magic := 8 }
     let q' := { ops 0xDEADBEEF00000001 16 with seed := 6, magic := 9 }
     q ≠ q' ∧ q.val.extractLsb' 0 32 = q'.val.extractLsb' 0 32 ∧ q.nparts = q'.nparts ∧ q.sd = q'.sd ∧
       (q.sd = true → q.seed = q'.seed) ∧
       ((block f6m1 []).cfg.magic32 = true → q.mg = q'.mg ∧ (q.mg = true → q.magic = q'.magic))) ∧
    (let q := { ops 1 16 with mg := true, magic := 9 }
     let q' := { ops 1 16 with seed := 6, mg := true, magic := 9 }
     q ≠ q' ∧ q.val = q'.val ∧ q.nparts = q'.nparts ∧ q.sd = q'.sd ∧ (q.sd = true → q.seed = q'.seed) ∧
       q.mg = q'.mg ∧ (q.mg = true → q.magic = q'.magic)) := by decide

/-- IgnoredInputsHaveNoEffect, third clause with `MAGIC32` = 0, where `MG` and `MAGIC` may differ. -/
theorem witness_ignored_magic :
    (block f6m0 []).cfg.magic32 = false ∧
    answer (.pidx32 { ops 1 16 with mg := true, magic := 9 }) (block f6m0 []) = answer (.pidx32 (ops 1 16)) (block f6m0 []) := by
  decide

/-- SinglePartitionHasIndexZero. -/
theorem witness_single_partition :
    (ops 0x8000000000000000 1).nparts = 1 ∧
    answer (.pidx64 (ops 0x8000000000000000 1)) (block f7m0 []) = some { err := false, result := 0 } := by decide

/-- WidthsAgreeWithMagicOnBothPaths, PartitionIndex32Completes: section 3.5, the row of -1. -/
theorem witness_widths_agree :
    (block f6m1 []).cfg.magic32 = true ∧
    -(2 ^ 31 : Int) ≤ (0xFFFFFFFF80000000 : DWord).toInt ∧ (0x000000007FFFFFFF : DWord).toInt ≤ 2 ^ 31 - 1 ∧
    answer (.pidx64 (ops 0xFFFFFFFFFFFFFFFF 16)) (block f6m1 []) = some { err := false, result := 4 } ∧
    answer (.pidx32 (ops 0xFFFFFFFF 16)) (block f6m1 []) = some { err := false, result := 4 } := by decide

/-- WidthsDifferByThreeWithoutMagic: R124's own case v = -1, n = 16. -/
theorem witness_widths_differ :
    (block f6m0 []).cfg.magic32 = false ∧ (ops 0xFFFFFFFF 16).nparts = 16 ∧ (ops 0xFFFFFFFF 16).mg = false ∧
    answer (.pidx64 (ops 0xFFFFFFFFFFFFFFFF 16)) (block f6m0 []) = some { err := false, result := 4 } ∧
    answer (.pidx32 (ops 0xFFFFFFFF 16)) (block f6m0 []) = some { err := false, result := 1 } := by decide

/-- MagicZeroReducesTheHash: P3 request 2. -/
theorem witness_magic_zero :
    (let q := { ops 540364 1000 with mg := true }
     0 < q.nparts.toInt ∧ q.mg = true ∧ q.magic = 0 ∧
     answer (.pidx64 q) (block f6m1 []) = some { err := false, result := 791 }) := by decide

/-- StepRunsTheDecodedRequest: an accepting edge, in front of another. -/
theorem witness_accepting_edge :
    (block f6m1 [present (req 0x3 1 16 0 0), Edge.idle]).edges = present (req 0x3 1 16 0 0) :: [Edge.idle] ∧
    (present (req 0x3 1 16 0 0)).rst = false ∧ (present (req 0x3 1 16 0 0)).reqValid = true := by decide

/-- EdgeWithoutRequestMovesStagesOnly: past the end of what the host drives, and an idle edge with ports driven. -/
theorem witness_idle_edge :
    (block f6m1 []).edge.rst = false ∧ (block f6m1 []).edge.reqValid = false ∧
    (block f6m1 [{ rst := false, reqValid := false, req := req 0x3 1 0 5 6 }]).edge.reqValid = false := by decide

/-- A state of a block with `LAT` = 2, with an error response in flight, one stage empty, and a response presented. -/
def busy (es : List Edge) : State :=
  { State.initial { f6m1 with lat := 2 } with
    pipe := [some { err := true, result := 0xFFFFFFFFFFFFFFFF }, none]
    out := some { err := false, result := 7 }
    edges := es }

/-- ResetDiscardsEverythingInFlight: with something in flight, and edges after it that accept nothing. -/
theorem witness_reset_edge :
    (busy [{ present (req 0x3 1 16 0 0) with rst := true }, Edge.idle]).edge.rst = true ∧
    (∀ e ∈ ([Edge.idle] : List Edge).take 3, e.rst = true ∨ e.reqValid = false) ∧
    (busy []).inFlight = [{ err := true, result := 0xFFFFFFFFFFFFFFFF }] := by decide

/-- StepKeepsTheInvariant, AtMostLatTransactionsInFlight, StepKeepsTheParameters: the invariant holds of a state with
transactions in flight, at both ends of its clauses, and a step answers. -/
theorem witness_invariant (es : List Edge) : (busy es).Inv := by
  refine ⟨rfl, ?_, ?_⟩
  · intro r h _
    have h' : some r = some { err := true, result := 0xFFFFFFFFFFFFFFFF } := by simpa [busy] using h
    cases h'
    decide
  · intro r h hr
    cases h
    cases hr

theorem witness_invariant_step :
    (match step (busy [present (req 0x3 1 16 0 0)]) with
      | .next t => some (t.out, t.pipe)
      | _ => none)
      = some (some { err := true, result := 0xFFFFFFFFFFFFFFFF }, [none, some { err := false, result := 6 }]) := by decide

/-- ResponseIsPresentedAfterLatency: with `LAT` = 2, a second request behind the first, and its own response after the
latency; with `LAT` = 0 in the cycle that follows. -/
theorem witness_latency :
    (let e := present (req 0x3 1 16 0 0)
     let s := busy [e, present (req 0x3 1 0 0 0)]
     s.edges = e :: [present (req 0x3 1 0 0 0)] ∧ e.rst = false ∧ e.reqValid = true ∧
     (∀ x ∈ ([present (req 0x3 1 0 0 0)] : List Edge).take 2, x.rst = false) ∧
     (outputs 3 s)[2]? = some (some { err := false, result := 6 })) ∧
    (outputs 1 (block f6m1 [present (req 0x3 1 16 0 0)]))[0]? = some (some { err := false, result := 6 }) := by decide

/-- RunPresentsEveryResponseInOrder: a run of two requests with an idle edge between, nothing in flight at its start. -/
theorem witness_run :
    (let es := [present (req 0x3 1 16 0 0), Edge.idle, present (req 0x3 1 0 0 0)]
     let s := block { f6m1 with lat := 1 } es
     (∀ e ∈ s.edges, e.rst = false) ∧ s.inFlight = [] ∧ s.pipe.length = s.cfg.lat ∧
     outputs 4 s = [none, some { err := false, result := 6 }, none, some { err := true, result := 0 }]) := by decide

/-- RegistersAndIdlePortsAreUnobservable: two states that differ in registers and in the ports of edges that accept
nothing. -/
theorem witness_unobservable :
    (let s := block f6m1 [{ rst := false, reqValid := false, req := req 1 2 3 4 5 },
        { rst := true, reqValid := true, req := req 0 0 0 0 0 }]
     let s' := { block f6m1 [{ rst := false, reqValid := false, req := req 6 7 8 9 10 },
        { rst := true, reqValid := false, req := req 1 1 1 1 1 }] with mix := ⟨1, 2, 3⟩, h := 4 }
     s ≠ s' ∧ s.cfg = s'.cfg ∧ s.pipe = s'.pipe) ∧
    Edge.Alike { rst := false, reqValid := false, req := req 1 2 3 4 5 }
      { rst := false, reqValid := false, req := req 6 7 8 9 10 } ∧
    Edge.Alike { rst := true, reqValid := true, req := req 0 0 0 0 0 }
      { rst := true, reqValid := false, req := req 1 1 1 1 1 } := by
  refine ⟨by decide, ⟨rfl, fun _ => ⟨rfl, fun h => ?_⟩⟩, ⟨rfl, fun h => ?_⟩⟩ <;> cases h

/-- ResponsePortsHaveNoValueWithoutResponse: both clauses. -/
theorem witness_response_ports :
    (busy []).rspValid = true ∧ (busy []).readResponse = .ok { err := false, result := 7 } ∧
    (block f6m1 []).rspValid = false := by decide

/-- TextualRequestsTranslate: every form of value, with and without each option, and a request that is not well
formed. -/
theorem witness_text :
    [({ mnemonic := .pidx32, value := .dec (-2147483648), nparts := some 9223372036854775807, seed := none,
        magic := some 5 } : TextRequest),
     { mnemonic := .hashx32, value := .hex 0xFFFFFFFF, nparts := none, seed := some 0, magic := none },
     { mnemonic := .hashx64, value := .hex 0xFFFFFFFFFFFFFFFF, nparts := none, seed := none, magic := none },
     { mnemonic := .pidx64, value := .dec 9223372036854775807, nparts := some (-1), seed := some 1, magic := none },
     { mnemonic := .pidx64, value := .dec 1, nparts := none, seed := none, magic := none }].map (·.wf)
      = [true, true, true, true, false] := by decide

/-- A textual request with only what a case needs, for the next witness. -/
def line (m : Mnemonic) (value : ValueLit) (nparts : Option Int) (seed magic : Option Nat) : TextRequest :=
  { mnemonic := m, value := value, nparts := nparts, seed := seed, magic := magic }

/-- TextualRequestsOutOfRangeAreRefused: each violation just outside its range (a decimal and a hexadecimal value of
both widths, a count missing, not allowed, too low, too high, a seed, a magic), and two requests with two violations, where
the earlier check gives the name. -/
theorem witness_text_refused :
    [line .pidx32 (.dec 2147483648) (some 1) none none, line .hashx64 (.dec (-9223372036854775809)) none none none,
     line .hashx32 (.hex 0x100000000) none none none, line .hashx64 (.hex 0x10000000000000000) none none none,
     line .pidx64 (.dec 1) none none none, line .hashx32 (.dec 1) (some 1) none none,
     line .pidx64 (.dec 1) (some (-9223372036854775809)) none none,
     line .pidx32 (.dec 1) (some 9223372036854775808) none none,
     line .pidx64 (.dec 1) (some 1) (some 0x10000000000000000) none,
     line .pidx64 (.dec 1) (some 1) (some 0xFFFFFFFFFFFFFFFF) (some 0x10000000000000000),
     line .pidx32 (.dec (-2147483649)) none none none,
     line .pidx64 (.dec 1) (some 1) (some 0x10000000000000000) (some 0x10000000000000000)].map
      (fun t => match assembleChecked t with | .ok _ => none | .error e => some e) =
      [some .valueRange, some .valueRange, some .valueRange, some .valueRange, some .npartsMissing,
       some .npartsNotAllowed, some .npartsRange, some .npartsRange, some .seedRange, some .magicRange,
       some .valueRange, some .seedRange] := by decide

end Sys2Proof.Tests
end

section
/-! PROOFS of the family 00_scope (spec/00_scope.md R16): every command completes, and the response its register
transfers enter is `responseOf` of the parameters and the request. -/

namespace Sys2Proof.Machine

/-! ### The commands, and the response of an index command, by the outcome of NPCHECK -/

theorem exec_hashx32 (q : Operands) (s : State) :
    exec (.hashx32 q) s = .next (((s.setSeedEff (selectSeed q)).runExtHash32 (key32 q)).respondHash) := rfl

theorem exec_hashx64 (q : Operands) (s : State) :
    exec (.hashx64 q) s = .next (((s.setSeedEff (selectSeed q)).runExtHash64 (key64 q)).respondHash) := rfl

theorem exec_pidx32_of_npCheck_none {q : Operands} (h : npCheck q.nparts = none) (s : State) :
    exec (.pidx32 q) s = .next (s.raiseInvalidPartitionCount q.nparts) := by
  simp [exec, execPidx32, h]

theorem exec_pidx32_of_npCheck_some {q : Operands} {n : PartitionCount} (h : npCheck q.nparts = some n) (s : State) :
    exec (.pidx32 q) s =
      .next ((((s.setSeedEff (selectSeed q)).runExtHash32 (key32 q)).foldMagic32 q).finishIndex n) := by
  simp [exec, execPidx32, h]

theorem exec_pidx64_of_npCheck_none {q : Operands} (h : npCheck q.nparts = none) (s : State) :
    exec (.pidx64 q) s = .next (s.raiseInvalidPartitionCount q.nparts) := by
  simp [exec, execPidx64, h]

theorem exec_pidx64_of_npCheck_some {q : Operands} {n : PartitionCount} (h : npCheck q.nparts = some n) (s : State) :
    exec (.pidx64 q) s = .next
      (((((s.setSeedEff (selectSeed q)).setMagicEff (selectMagic q)).runExtHash64 (key64 q)).runAddMagic).finishIndex n) := by
  simp [exec, execPidx64, h]

theorem indexResponse_of_npCheck_none {nparts : DWord} (h : npCheck nparts = none) (folded : DWord) :
    indexResponse nparts folded = { err := true, result := nparts } := by
  simp [indexResponse, h]

theorem indexResponse_of_npCheck_some {nparts : DWord} {n : PartitionCount} (h : npCheck nparts = some n)
    (folded : DWord) : indexResponse nparts folded = { err := false, result := umod folded n } := by
  simp [indexResponse, h]

/-! ### The response entered -/

/-- `t` is `s` after a command that answered `r` (R16, R156): `r` stands behind all that was in flight; the
parameters, the response ports and the host's edges are those of `s`. Registers may differ. -/
def State.AnsweredBy (s : State) (r : Response) (t : State) : Prop :=
  t.pipe = s.pipe ++ [some r] ∧ t.cfg = s.cfg ∧ t.out = s.out ∧ t.edges = s.edges

theorem raiseInvalidPartitionCount_answeredBy (v : DWord) (s : State) :
    s.AnsweredBy { err := true, result := v } (s.raiseInvalidPartitionCount v) := by
  simp [State.AnsweredBy]

theorem exec_hashx32_answers (q : Operands) (s : State) :
    ∃ t, exec (.hashx32 q) s = .next t ∧ s.AnsweredBy (responseOf s.cfg (.hashx32 q)) t :=
  ⟨_, exec_hashx32 q s, by simp [State.AnsweredBy, responseOf]⟩

theorem exec_hashx64_answers (q : Operands) (s : State) :
    ∃ t, exec (.hashx64 q) s = .next t ∧ s.AnsweredBy (responseOf s.cfg (.hashx64 q)) t :=
  ⟨_, exec_hashx64 q s, by simp [State.AnsweredBy, responseOf]⟩

theorem exec_pidx32_answers (q : Operands) (s : State) :
    ∃ t, exec (.pidx32 q) s = .next t ∧ s.AnsweredBy (responseOf s.cfg (.pidx32 q)) t := by
  cases hn : npCheck q.nparts with
  | none =>
    refine ⟨_, exec_pidx32_of_npCheck_none hn s, ?_⟩
    rw [responseOf, indexResponse_of_npCheck_none hn]
    exact raiseInvalidPartitionCount_answeredBy q.nparts s
  | some n =>
    refine ⟨_, exec_pidx32_of_npCheck_some hn s, ?_⟩
    rw [responseOf, indexResponse_of_npCheck_some hn]
    simp [State.AnsweredBy, foldedOf32]

theorem exec_pidx64_answers (q : Operands) (s : State) :
    ∃ t, exec (.pidx64 q) s = .next t ∧ s.AnsweredBy (responseOf s.cfg (.pidx64 q)) t := by
  cases hn : npCheck q.nparts with
  | none =>
    refine ⟨_, exec_pidx64_of_npCheck_none hn s, ?_⟩
    rw [responseOf, indexResponse_of_npCheck_none hn]
    exact raiseInvalidPartitionCount_answeredBy q.nparts s
  | some n =>
    refine ⟨_, exec_pidx64_of_npCheck_some hn s, ?_⟩
    rw [responseOf, indexResponse_of_npCheck_some hn]
    simp [State.AnsweredBy, foldedOf64]

/-- The register transfers of every command refine the pure function `responseOf` (R16, R20). -/
theorem exec_answers_responseOf (i : Instr) (s : State) :
    ∃ t, exec i s = .next t ∧ s.AnsweredBy (responseOf s.cfg i) t := by
  cases i with
  | hashx32 q => exact exec_hashx32_answers q s
  | hashx64 q => exact exec_hashx64_answers q s
  | pidx32 q => exact exec_pidx32_answers q s
  | pidx64 q => exact exec_pidx64_answers q s

/-- Settles O36, by cases on the command and, for an index command, on the outcome of NPCHECK. -/
theorem commandsAnswerThePureFunction : Obligations.CommandsAnswerThePureFunction :=
  exec_answers_responseOf

end Sys2Proof.Machine
end

section
/-! PROOFS of the family 10_state (spec/10_state.md R20 to R35): what a clock edge does to everything but the registers,
hence that the parameters stay and the registers cannot be observed; and what reset leaves, the response ports, and
HASHWORD's start. -/

namespace Sys2Proof.Machine

/-! ### One clock edge, registers aside -/

/-- The stages that the transactions in flight fill at the next edge, the one it presents first: those that were there
and what the edge lets in behind them (R156, R157), or with `RST` = 1 empty stages only (R151). -/
def State.stages (s : State) : List (Option Response) :=
  if s.edge.rst then none :: List.replicate s.cfg.lat none else s.pipe ++ [enters s.cfg s.edge]

/-- `t` is `s` after its next edge, registers aside: the oldest of the stages is presented (R158), the others stay, the
host's edge is consumed, and the parameters are those of `s` (R31). -/
structure State.EdgeLeaves (s t : State) : Prop where
  cfg   : t.cfg = s.cfg
  out   : t.out = s.stages.headD none
  pipe  : t.pipe = s.stages.tail
  edges : t.edges = s.edges.tail

theorem stages_of_reset {s : State} (h : s.edge.rst = true) : s.stages = none :: List.replicate s.cfg.lat none :=
  if_pos h

theorem stages_of_accept {s : State} (hr : s.edge.rst = false) (hv : s.edge.reqValid = true) :
    s.stages = s.pipe ++ [some (responseOf s.cfg (decodeRequest s.edge.req))] := by
  simp [State.stages, enters, hr, hv]

theorem stages_of_idle {s : State} (hr : s.edge.rst = false) (hv : s.edge.reqValid = false) :
    s.stages = s.pipe ++ [none] := by
  simp [State.stages, enters, hr, hv]

/-- Every edge answers a next state, and the registers have no part in what it leaves elsewhere. By the three kinds of
edge; at an accepting one the command enters `responseOf` of its request. -/
theorem step_edgeLeaves (s : State) : ∃ t, step s = .next t ∧ s.EdgeLeaves t := by
  cases hr : s.edge.rst with
  | true => exact ⟨_, step_of_reset hr, by constructor <;> simp [stages_of_reset hr]⟩
  | false =>
    cases hv : s.edge.reqValid with
    | true =>
      obtain ⟨t, ht, hpipe, hcfg, -, hedges⟩ := exec_answers_responseOf (decodeRequest s.edge.req) s
      exact ⟨_, step_of_accept hr hv ht, by constructor <;> simp [stages_of_accept hr hv, hpipe, hcfg, hedges]⟩
    | false => exact ⟨_, step_of_idle hr hv, by constructor <;> simp [stages_of_idle hr hv]⟩

/-- The inversion of `step_edgeLeaves`. -/
theorem edgeLeaves_of_step {s t : State} (h : step s = .next t) : s.EdgeLeaves t := by
  obtain ⟨u, hu, hleaves⟩ := step_edgeLeaves s
  cases h.symm.trans hu
  exact hleaves

/-- Settles O51: no kind of edge writes the parameters. -/
theorem stepKeepsTheParameters : Obligations.StepKeepsTheParameters :=
  fun _ _ h => (edgeLeaves_of_step h).cfg

/-! ### What the response ports can show -/

theorem outputs_succ_of_step {s t : State} (h : step s = .next t) (n : Nat) :
    outputs (n + 1) s = t.out :: outputs n t := by
  rw [outputs, h]

theorem Edge.Alike.refl (e : Edge) : e.Alike e := ⟨rfl, fun _ => ⟨rfl, fun _ => rfl⟩⟩

/-- The next edges of alike lists are alike, past the end too, where the host drives nothing. -/
theorem Edge.Alike.headD {es fs : List Edge} (h : List.Forall₂ Edge.Alike es fs) :
    (es.headD Edge.idle).Alike (fs.headD Edge.idle) := by
  cases h with
  | nil => exact Edge.Alike.refl Edge.idle
  | cons he _ => exact he

/-- Alike edges without reset let the same response in. -/
theorem enters_eq_of_alike {e f : Edge} (h : e.Alike f) (hr : e.rst = false) (p : Params) :
    enters p e = enters p f := by
  obtain ⟨hvalid, hreq⟩ := h.2 hr
  cases hv : e.reqValid with
  | true => simp [enters, ← hvalid, hv, hreq hv]
  | false => simp [enters, ← hvalid, hv]

/-- Two states that the ports cannot tell apart (R27, R151, R157): registers, what is presented now, and the ports of
edges that accept nothing may differ. -/
structure State.Indistinguishable (s s' : State) : Prop where
  cfg   : s.cfg = s'.cfg
  pipe  : s.pipe = s'.pipe
  edges : List.Forall₂ Edge.Alike s.edges s'.edges

namespace State.Indistinguishable

variable {s s' : State}

theorem edge_alike (h : s.Indistinguishable s') : s.edge.Alike s'.edge :=
  Edge.Alike.headD h.edges

theorem stages_eq (h : s.Indistinguishable s') : s.stages = s'.stages := by
  have hrst : s.edge.rst = s'.edge.rst := h.edge_alike.1
  cases hr : s.edge.rst with
  | true => rw [stages_of_reset hr, stages_of_reset (hrst ▸ hr), h.cfg]
  | false => simp [State.stages, ← hrst, hr, ← h.cfg, h.pipe, enters_eq_of_alike h.edge_alike hr]

/-- An edge keeps two states indistinguishable and presents the same on both. -/
theorem edgeLeaves {t t' : State} (h : s.Indistinguishable s') (ht : s.EdgeLeaves t) (ht' : s'.EdgeLeaves t') :
    t.Indistinguishable t' ∧ t.out = t'.out := by
  refine ⟨⟨?_, ?_, ?_⟩, ?_⟩
  · rw [ht.cfg, ht'.cfg, h.cfg]
  · rw [ht.pipe, ht'.pipe, h.stages_eq]
  · rw [ht.edges, ht'.edges, ← List.drop_one, ← List.drop_one]
    exact List.forall₂_drop 1 h.edges
  · rw [ht.out, ht'.out, h.stages_eq]

theorem outputs_eq (n : Nat) (h : s.Indistinguishable s') : outputs n s = outputs n s' := by
  induction n generalizing s s' with
  | zero => rfl
  | succ n ih =>
    obtain ⟨t, hstep, ht⟩ := step_edgeLeaves s
    obtain ⟨t', hstep', ht'⟩ := step_edgeLeaves s'
    obtain ⟨hnext, hout⟩ := h.edgeLeaves ht ht'
    rw [outputs_succ_of_step hstep, outputs_succ_of_step hstep', hout, ih hnext]

end State.Indistinguishable

/-- Settles O54: `State.Indistinguishable` is a bisimulation whose states present the same; by induction on the number of
cycles. -/
theorem registersAndIdlePortsAreUnobservable : Obligations.RegistersAndIdlePortsAreUnobservable :=
  fun n _ _ hcfg hpipe hedges => State.Indistinguishable.outputs_eq n ⟨hcfg, hpipe, hedges⟩

/-! ### The start of HASHWORD, reset, and the response ports -/

/-- `INITVAL` in numbers (R86). -/
theorem initval_eq : Config.initval = 0x9E735654 := by decide

/-- Settles O17: the three additions do not wrap, and step 1 of HASHWORD writes all three words. -/
theorem initialValueIsSumOfAddends : Obligations.InitialValueIsSumOfAddends := by
  refine ⟨?_, initval_eq, fun m => ?_⟩
  · rw [initval_eq]
    decide
  · rw [initialise_eq, initval_eq]

/-- Settles O20: step 1 of HASHWORD leaves the same registers whatever it found. -/
theorem hashWordForgetsOldRegisters : Obligations.HashWordForgetsOldRegisters := by
  intro g key seed m n
  rw [hashWordRegs, hashWordRegs, initialise_eq m, initialise_eq n]

@[simp] theorem initial_inFlight (p : Params) : (State.initial p).inFlight = [] := by
  simp [State.inFlight]

@[simp] theorem initial_rspValid (p : Params) : (State.initial p).rspValid = false := rfl

/-- Settles O55: reset is the initial state of the block with six groups, all of whose stages are empty. -/
theorem resetLeavesNothingInFlight : Obligations.ResetLeavesNothingInFlight := by
  refine ⟨initial_inFlight _, initial_rspValid _, rfl, ?_, initial_edges _⟩
  rw [State.reset, initial_pipe, initial_cfg, List.length_replicate]

theorem readResponse_of_some {s : State} {r : Response} (h : s.out = some r) : s.readResponse = .ok r := by
  simp [State.readResponse, h]

theorem readResponse_of_none {s : State} (h : s.out = none) : s.readResponse = .error .noResponse := by
  simp [State.readResponse, h]

/-- Settles O56, by what the response ports hold. -/
theorem responsePortsHaveNoValueWithoutResponse : Obligations.ResponsePortsHaveNoValueWithoutResponse := by
  intro s
  cases h : s.out with
  | none => simp [State.rspValid, h, readResponse_of_none h]
  | some r => simp [State.rspValid, h, readResponse_of_some h]

end Sys2Proof.Machine
end

section
/-! PROOFS of the family 20_memory (spec/20_memory.md R46, spec/60_exceptions.md R138): CORE has no memory that a
transaction could leave anything in, so the response of a command depends on the parameters and the request alone. -/

namespace Sys2Proof.Machine

theorem answer_of_exec {i : Instr} {s t : State} (h : exec i s = .next t) : answer i s = t.pipe.getLast?.join := by
  simp [answer, h]

/-- What a command answers is the pure function of the parameters and the request, in every state (R16, R46). -/
theorem answer_eq_responseOf (i : Instr) (s : State) : answer i s = some (responseOf s.cfg i) := by
  obtain ⟨t, hexec, hpipe, -, -, -⟩ := exec_answers_responseOf i s
  rw [answer_of_exec hexec, hpipe, List.getLast?_concat, Option.join_some]

/-- No command writes the parameters (R31). -/
theorem exec_keeps_cfg {j : Instr} {s t : State} (h : exec j s = .next t) : t.cfg = s.cfg := by
  obtain ⟨u, hu, -, hcfg, -, -⟩ := exec_answers_responseOf j s
  cases h.symm.trans hu
  exact hcfg

/-- Settles O37: the earlier command, an error included, leaves the parameters, and the later response depends on nothing
else of the state. -/
theorem earlierTransactionsDoNotMatter : Obligations.EarlierTransactionsDoNotMatter := by
  intro i j s t hexec
  refine ⟨responseOf s.cfg i, answer_eq_responseOf i s, ?_⟩
  rw [answer_eq_responseOf i t, exec_keeps_cfg hexec]

end Sys2Proof.Machine
end

section
/-! PROOFS of the family 30_encoding (spec/30_encoding.md R50 to R62): the packing of `REQ` and `RSP`, the decoder as
the selection by `FN` and `W`, the inputs a command uses, and the textual form. -/

namespace Sys2Proof

/-! ### `REQ` as a word: five fields side by side (R50) -/

theorem Request.pack_getLsbD (r : Request) (j : Nat) :
    r.pack.getLsbD j =
      if j < 64 then r.magic.getLsbD j
      else if j < 128 then r.seed.getLsbD (j - 64)
      else if j < 192 then r.nparts.getLsbD (j - 128)
      else if j < 256 then r.val.getLsbD (j - 192)
      else r.cmd.getLsbD (j - 256) := by
  have hlt (k : Nat) : j - k < 64 ↔ j < k + 64 := by omega
  change (r.cmd ++ r.val ++ r.nparts ++ r.seed ++ r.magic).getLsbD j = _
  simp only [BitVec.getLsbD_append]
  simp only [Nat.sub_sub, hlt, Nat.reduceAdd]

@[simp] theorem Request.unpack_pack (r : Request) : Request.unpack r.pack = r := by
  have hmagic : r.pack.extractLsb' 0 64 = r.magic := BitVec.extractLsb'_append_eq_right
  have hseed : r.pack.extractLsb' 64 64 = r.seed :=
    (BitVec.extractLsb'_append_eq_of_le (by decide)).trans BitVec.extractLsb'_append_eq_right
  have hnparts : r.pack.extractLsb' 128 64 = r.nparts := by
    rw [Request.pack, BitVec.extractLsb'_append_eq_of_le (by decide), BitVec.extractLsb'_append_eq_of_le (by decide)]
    exact BitVec.extractLsb'_append_eq_right
  have hval : r.pack.extractLsb' 192 64 = r.val := by
    rw [Request.pack, BitVec.extractLsb'_append_eq_of_le (by decide), BitVec.extractLsb'_append_eq_of_le (by decide),
      BitVec.extractLsb'_append_eq_of_le (by decide)]
    exact BitVec.extractLsb'_append_eq_right
  have hcmd : r.pack.extractLsb' 256 4 = r.cmd := by
    rw [Request.pack, BitVec.extractLsb'_append_eq_of_le (by decide), BitVec.extractLsb'_append_eq_of_le (by decide),
      BitVec.extractLsb'_append_eq_of_le (by decide)]
    exact BitVec.extractLsb'_append_eq_left
  rw [Request.unpack, hmagic, hseed, hnparts, hval, hcmd]

theorem Request.pack_unpack (w : ReqWord) : (Request.unpack w).pack = w := by
  rw [Request.pack, unpack_cmd, unpack_val, unpack_nparts, unpack_seed, unpack_magic,
    BitVec.extractLsb'_append_extractLsb'_eq_extractLsb' (show 256 = 192 + 64 from rfl),
    BitVec.extractLsb'_append_extractLsb'_eq_extractLsb' (show 192 = 128 + 64 from rfl),
    BitVec.extractLsb'_append_extractLsb'_eq_extractLsb' (show 128 = 64 + 64 from rfl),
    BitVec.extractLsb'_append_extractLsb'_eq_extractLsb' (show 64 = 0 + 64 from rfl)]
  exact BitVec.extractLsb'_eq_self

/-! ### The decoder as the selection by `FN` and `W` (R53) -/

/-- The row of R53's table with given `FN` and `W`. -/
def Instr.ofFields : Bool → Bool → Operands → Instr
  | false, false => .hashx32
  | false, true  => .hashx64
  | true,  false => .pidx32
  | true,  true  => .pidx64

theorem decodeRequest_eq_ofFields (r : Request) :
    decodeRequest r = Instr.ofFields (cmdFN r.cmd) (cmdW r.cmd) r.operands := by
  unfold decodeRequest
  cases cmdFN r.cmd <;> cases cmdW r.cmd <;> rfl

@[simp] theorem operands_request (q : Operands) (fn w : Bool) : (q.request fn w).operands = q := by
  simp [Operands.request, Request.operands]

@[simp] theorem decodeRequest_request (q : Operands) (fn w : Bool) :
    decodeRequest (q.request fn w) = Instr.ofFields fn w q := by
  rw [decodeRequest_eq_ofFields, operands_request]
  simp [Operands.request]

theorem decodeRequest_encodeRequest (i : Instr) : decodeRequest (encodeRequest i) = i := by
  cases i with
  | hashx32 q => exact decodeRequest_request q false false
  | hashx64 q => exact decodeRequest_request q false true
  | pidx32 q => exact decodeRequest_request q true false
  | pidx64 q => exact decodeRequest_request q true true

theorem decode_encode (i : Instr) : decode (encode i) = i := by
  rw [decode, encode, Request.unpack_pack, decodeRequest_encodeRequest]

/-- Settles O1: unpacking undoes packing, and the decoder reads back the `FN` and `W` that the encoder put in `CMD`. -/
theorem decodeOfEncodeIsIdentity : Obligations.DecodeOfEncodeIsIdentity :=
  fun i _ => ⟨decode_encode i, decodeRequest_encodeRequest i⟩

/-- The mask 0x3 keeps `FN` and `W` (R64). -/
theorem cmd_and_three (c : Cmd) : c &&& 0x3 = cmdOf false false (cmdFN c) (cmdW c) := by
  revert c
  decide

/-- Settles O4, by the four values of `FN`, `W`, which are all that the mask 0x3 leaves of `CMD`. -/
theorem commandFieldsSelectCommand : Obligations.CommandFieldsSelectCommand := by
  intro r
  rw [decodeRequest_eq_ofFields, cmd_and_three]
  cases cmdFN r.cmd <;> cases cmdW r.cmd <;> rfl

/-- Settles O6, by evaluating the decoder. -/
theorem writtenRequestWordsDecode : Obligations.WrittenRequestWordsDecode := by
  unfold Obligations.WrittenRequestWordsDecode
  decide +kernel

/-! ### Opcode-table words (R64) -/

theorem tableRequest_cmd_getLsbD (w : Nat) {i : Nat} (hi : i < 4) : (tableRequest w).cmd.getLsbD i = w.testBit i := by
  rw [tableRequest, BitVec.getLsbD_ofNat, decide_eq_true hi, Bool.true_and]

theorem tableRequest_operands (w : Nat) :
    (tableRequest w).operands =
      { mg := w.testBit 3, sd := w.testBit 2, val := 0, nparts := 0, seed := 0, magic := 0 } := by
  rw [Request.operands, cmdMG, cmdSD, tableRequest_cmd_getLsbD w (by decide), tableRequest_cmd_getLsbD w (by decide)]
  rfl

theorem decodeRequest_tableRequest (w : Nat) :
    decodeRequest (tableRequest w) = Instr.ofFields (w.testBit 1) (w.testBit 0) (tableRequest w).operands := by
  rw [decodeRequest_eq_ofFields, cmdFN, cmdW, tableRequest_cmd_getLsbD w (by decide),
    tableRequest_cmd_getLsbD w (by decide)]

/-- The two low bits of a number as its remainder by 4. -/
theorem Instr.ofFields_testBit (w : Nat) (q : Operands) :
    Instr.ofFields (w.testBit 1) (w.testBit 0) q =
      if w % 4 = 0 then .hashx32 q
      else if w % 4 = 1 then .hashx64 q
      else if w % 4 = 2 then .pidx32 q
      else .pidx64 q := by
  have h1 : (w % 4).testBit 1 = w.testBit 1 := Nat.testBit_mod_two_pow w 2 1
  have h0 : (w % 4).testBit 0 = w.testBit 0 := Nat.testBit_mod_two_pow w 2 0
  rw [← h1, ← h0]
  have hlt : w % 4 < 4 := Nat.mod_lt w (by decide)
  generalize w % 4 = k at hlt ⊢
  interval_cases k <;> rfl

end Sys2Proof

namespace Sys2Proof.Machine

/-- Settles O7: the decoder reads the low bits of the word, and the edge that presents it is an accepting one, whose
command completes. -/
theorem opcodeTableWordsDecodeAndRun : Obligations.OpcodeTableWordsDecodeAndRun := by
  refine ⟨fun nbits w => ⟨tableRequest_operands w, ?_⟩, fun nbits w s => ?_⟩
  · rw [decodeTableWord, decodeRequest_tableRequest, Instr.ofFields_testBit]
  · obtain ⟨t, hexec, -⟩ := exec_answers_responseOf (decodeRequest (tableRequest w)) (s.withFetchWord nbits w)
    exact ⟨_, t, rfl, hexec, step_of_accept rfl rfl hexec⟩

/-! ### `RSP` as a word (R50) -/

theorem Response.pack_getLsbD (r : Response) {j : Nat} (hj : j < 65) :
    r.pack.getLsbD j = if j < 64 then r.result.getLsbD j else r.err := by
  rw [Response.pack, BitVec.getLsbD_append]
  split_ifs with h
  · rfl
  · have h64 : j - 64 = 0 := by omega
    simp [bit, h64]

theorem Response.pack_unpack (w : RspWord) : (Response.unpack w).pack = w := by
  apply BitVec.eq_of_getLsbD_eq
  intro j hj
  rw [Response.pack_getLsbD _ hj, Response.unpack, BitVec.getLsbD_extractLsb', Nat.zero_add]
  split_ifs with h
  · simp [h]
  · rw [show j = 64 by omega]

/-- Settles O3, bit by bit for the places and by joining adjacent fields for the words. -/
theorem requestAndResponseBitPositions : Obligations.RequestAndResponseBitPositions :=
  ⟨fun r j _ => r.pack_getLsbD j, Request.pack_unpack, fun r _ hj => r.pack_getLsbD hj, Response.pack_unpack⟩

/-! ### NPCHECK (R57) -/

theorem toInt_nonpos_iff (n : DWord) : n.toInt ≤ 0 ↔ n.getLsbD 63 = true ∨ n = 0 := by
  have hneg : n.getLsbD 63 = true ↔ n.toInt < 0 := neg_eq_true n
  have hzero : n = 0 ↔ n.toInt = 0 := BitVec.toInt_inj.symm
  rw [hneg, hzero]
  exact le_iff_lt_or_eq

/-- The signed and the unsigned reading of a count that NPCHECK passes are one number. -/
theorem toInt_eq_toNat_of_pos {n : DWord} (h : 0 < n.toInt) : n.toInt = n.toNat := by
  apply BitVec.toInt_eq_toNat_of_msb
  rw [BitVec.msb_eq_toInt, decide_eq_false (by omega)]

theorem npCheck_isSome_of_pos {n : DWord} (h : 0 < n.toInt) : (npCheck n).isSome := by
  obtain ⟨c, hc, -⟩ := npCheck_of_pos h
  rw [hc]
  rfl

/-- Settles O24: NPCHECK reads the sign and the value 0 of the count, and the corner cases follow from its sign. -/
theorem countCheckRejectsNonPositive : Obligations.CountCheckRejectsNonPositive := by
  refine ⟨fun _ => npCheck_eq_none, fun n => npCheck_eq_none.trans (toInt_nonpos_iff n), fun n hn => ?_,
    npCheck_eq_none.mpr (by decide), npCheck_eq_none.mpr (by decide), npCheck_eq_none.mpr (by decide),
    npCheck_isSome_of_pos (by decide), npCheck_isSome_of_pos (by decide)⟩
  obtain ⟨c, hc, hbits⟩ := npCheck_of_pos hn
  exact ⟨c, hc, hbits, toInt_eq_toNat_of_pos hn⟩

/-! ### What a command reads of its operands (R55, R58) -/

theorem selectSeed_congr {q q' : Operands} (hsd : q.sd = q'.sd) (hseed : q.sd = true → q.seed = q'.seed) :
    selectSeed q = selectSeed q' := by
  cases h : q.sd with
  | true => rw [selectSeed_port h, selectSeed_port (hsd ▸ h), hseed h]
  | false => rw [selectSeed_default h, selectSeed_default (hsd ▸ h)]

theorem selectMagic_congr {q q' : Operands} (hmg : q.mg = q'.mg) (hmagic : q.mg = true → q.magic = q'.magic) :
    selectMagic q = selectMagic q' := by
  cases h : q.mg with
  | true => rw [selectMagic_port h, selectMagic_port (hmg ▸ h), hmagic h]
  | false => rw [selectMagic_default h, selectMagic_default (hmg ▸ h)]

theorem foldMagic32_congr {q q' : Operands} {s : State}
    (hmagic : s.cfg.magic32 = true → selectMagic q = selectMagic q') : s.foldMagic32 q = s.foldMagic32 q' := by
  unfold State.foldMagic32
  cases h : s.cfg.magic32 with
  | true => rw [hmagic h]
  | false => rfl

section Reads

variable {q q' : Operands}

/-! The effect of a command depends on the key, the selected seed and, on an index command, the count and the selected
magic; nothing else of the operands. -/

theorem exec_hashx32_congr (hkey : key32 q = key32 q') (hseed : selectSeed q = selectSeed q') (s : State) :
    exec (.hashx32 q) s = exec (.hashx32 q') s := by
  rw [exec_hashx32, exec_hashx32, hkey, hseed]

theorem exec_hashx64_congr (hkey : key64 q = key64 q') (hseed : selectSeed q = selectSeed q') (s : State) :
    exec (.hashx64 q) s = exec (.hashx64 q') s := by
  rw [exec_hashx64, exec_hashx64, hkey, hseed]

theorem exec_pidx32_congr (hkey : key32 q = key32 q') (hnparts : q.nparts = q'.nparts)
    (hseed : selectSeed q = selectSeed q') {s : State}
    (hmagic : s.cfg.magic32 = true → selectMagic q = selectMagic q') :
    exec (.pidx32 q) s = exec (.pidx32 q') s := by
  cases hn : npCheck q.nparts with
  | none =>
    rw [exec_pidx32_of_npCheck_none hn, exec_pidx32_of_npCheck_none (hnparts ▸ hn), hnparts]
  | some n =>
    rw [exec_pidx32_of_npCheck_some hn, exec_pidx32_of_npCheck_some (hnparts ▸ hn), hkey, hseed,
      foldMagic32_congr (by simpa using hmagic)]

theorem exec_pidx64_congr (hkey : key64 q = key64 q') (hnparts : q.nparts = q'.nparts)
    (hseed : selectSeed q = selectSeed q') (hmagic : selectMagic q = selectMagic q') (s : State) :
    exec (.pidx64 q) s = exec (.pidx64 q') s := by
  cases hn : npCheck q.nparts with
  | none =>
    rw [exec_pidx64_of_npCheck_none hn, exec_pidx64_of_npCheck_none (hnparts ▸ hn), hnparts]
  | some n =>
    rw [exec_pidx64_of_npCheck_some hn, exec_pidx64_of_npCheck_some (hnparts ▸ hn), hkey, hseed, hmagic]

end Reads

/-- Settles O35: each command reads no more than its congruence lemma names. -/
theorem ignoredInputsHaveNoEffect : Obligations.IgnoredInputsHaveNoEffect := by
  refine ⟨fun q q' s hkey hsd hseed => ?_, fun q q' s hval hsd hseed => ?_,
    fun q q' s hkey hnparts hsd hseed hmagic => ?_, fun q q' s hval hnparts hsd hseed hmg hmagic => ?_⟩
  · exact exec_hashx32_congr hkey (selectSeed_congr hsd hseed) s
  · exact exec_hashx64_congr hval (selectSeed_congr hsd hseed) s
  · exact exec_pidx32_congr hkey hnparts (selectSeed_congr hsd hseed)
      fun h => selectMagic_congr (hmagic h).1 (hmagic h).2
  · exact exec_pidx64_congr hval hnparts (selectSeed_congr hsd hseed) (selectMagic_congr hmg hmagic) s

/-- Settles O42: the selection reads the same seed and the same magic either way. -/
theorem writtenDefaultsEqualOmittedOnes : Obligations.WrittenDefaultsEqualOmittedOnes :=
  fun _ s => ⟨exec_pidx64_congr rfl rfl rfl rfl s, exec_pidx32_congr rfl rfl rfl fun _ => rfl,
    exec_hashx64_congr rfl rfl s, exec_hashx32_congr rfl rfl s⟩

/-- A hash command does not read `MG` (R55). -/
theorem exec_hash_ignores_mg (w mg : Bool) (q : Operands) (s : State) :
    exec (Instr.ofFields false w q) s = exec (Instr.ofFields false w { q with mg := mg }) s := by
  cases w with
  | false => exact exec_hashx32_congr rfl rfl s
  | true => exact exec_hashx64_congr rfl rfl s

/-- The mask 0x7 clears `MG` and keeps the other fields of `CMD`. -/
theorem cmd_and_seven (c : Cmd) : c &&& 0x7 = cmdOf false (cmdSD c) (cmdFN c) (cmdW c) := by
  revert c
  decide

theorem decodeRequest_clearMG (r : Request) :
    decodeRequest { r with cmd := r.cmd &&& 0x7 } =
      Instr.ofFields (cmdFN r.cmd) (cmdW r.cmd) { r.operands with mg := false } := by
  rw [cmd_and_seven]
  exact decodeRequest_request { r.operands with mg := false } (cmdFN r.cmd) (cmdW r.cmd)

/-- Settles O5: every command completes, and clearing `MG` changes only a field that a hash command does not read. -/
theorem everyEncodingIsLegal : Obligations.EveryEncodingIsLegal := by
  intro r s
  refine ⟨?_, fun hfn => ?_⟩
  · obtain ⟨t, hexec, -⟩ := exec_answers_responseOf (decodeRequest r) s
    exact ⟨t, hexec⟩
  · have hFN : cmdFN r.cmd = false := hfn
    rw [decodeRequest_clearMG, decodeRequest_eq_ofFields, hFN]
    exact exec_hash_ignores_mg _ false _ s

/-! ### Magic 0 (R62, R105) -/

@[simp] theorem addMagic_zero (h : DWord) : addMagic h 0 = h := BitVec.add_zero h

theorem foldedOf64_of_magic_zero {q : Operands} (h : selectMagic q = 0) (p : Params) :
    foldedOf64 p q = extHash64 p.finalGroups (key64 q) (selectSeed q) := by
  rw [foldedOf64, h, addMagic_zero]

/-- With magic 0 it makes no difference whether the 32-bit path adds the magic (R119). -/
theorem foldedOf32_of_magic_zero {q : Operands} (h : selectMagic q = 0) (p : Params) :
    foldedOf32 p q = extHash32 p.finalGroups (key32 q) (selectSeed q) := by
  rw [foldedOf32, h, addMagic_zero, Bool.cond_self]

theorem indexResponse_of_pos {nparts : DWord} (h : 0 < nparts.toInt) (folded : DWord) :
    indexResponse nparts folded = { err := false, result := folded % nparts } := by
  obtain ⟨c, hc, hbits⟩ := npCheck_of_pos h
  rw [indexResponse_of_npCheck_some hc, umod, hbits]

/-- Settles O43: with magic 0, `FOLDED` is the hash that the hash command answers. -/
theorem magicZeroReducesTheHash : Obligations.MagicZeroReducesTheHash := by
  intro q s hpos hmg hmagic
  have hzero : selectMagic q = 0 := (selectMagic_port hmg).trans hmagic
  refine ⟨⟨_, _, ?_, answer_eq_responseOf (.hashx64 q) s, BitVec.toNat_umod⟩,
    ⟨_, _, ?_, answer_eq_responseOf (.hashx32 q) s, BitVec.toNat_umod⟩⟩
  · rw [answer_eq_responseOf, responseOf, indexResponse_of_pos hpos, foldedOf64_of_magic_zero hzero]
  · rw [answer_eq_responseOf, responseOf, indexResponse_of_pos hpos, foldedOf32_of_magic_zero hzero]

/-! ### The textual form (R60, R61) -/

theorem fitsSigned_iff {n : Nat} {v : Int} :
    fitsSigned n v = true ↔ -(2 ^ (n - 1) : Int) ≤ v ∧ v < (2 ^ (n - 1) : Int) :=
  decide_eq_true_iff

theorem toInt_ofInt_of_fitsSigned {n : Nat} {v : Int} (hn : 0 < n) (h : fitsSigned n v = true) :
    (BitVec.ofInt n v).toInt = v :=
  BitVec.toInt_ofInt_eq_self hn (fitsSigned_iff.mp h).1 (fitsSigned_iff.mp h).2

theorem toNat_ofNat_of_fitsUnsigned {n v : Nat} (h : fitsUnsigned n v = true) : (BitVec.ofNat n v).toNat = v :=
  (BitVec.toNat_ofNat v n).trans (Nat.mod_eq_of_lt (of_decide_eq_true h))

theorem toInt_sext64 (v : Word) : (sext64 v).toInt = v.toInt := BitVec.toInt_signExtend_of_le (by decide)

theorem textRequest_wf_iff (t : TextRequest) :
    t.wf = true ↔ t.valueOk = true ∧ t.npartsOk = true ∧ t.seedOk = true ∧ t.magicOk = true := by
  simp [TextRequest.wf, and_assoc]

theorem assembleChecked_of_wf {t : TextRequest} (h : t.wf = true) : assembleChecked t = .ok (assemble t) := by
  obtain ⟨hvalue, hnparts, hseed, hmagic⟩ := (textRequest_wf_iff t).mp h
  simp [assembleChecked, hvalue, hnparts, hseed, hmagic]

theorem decodeRequest_assemble (t : TextRequest) :
    decodeRequest (assemble t) = Instr.ofFields t.mnemonic.index t.mnemonic.wide (assemble t).operands := by
  rw [decodeRequest_eq_ofFields]
  simp [assemble]

theorem toInt_valBits_dec {wide : Bool} {v : Int} (h : fitsSigned (if wide then 64 else 32) v = true) :
    (TextRequest.valBits wide (.dec v)).toInt = v := by
  cases wide with
  | true => exact toInt_ofInt_of_fitsSigned (by decide) h
  | false => exact (toInt_sext64 _).trans (toInt_ofInt_of_fitsSigned (by decide) h)

theorem lo32_valBits_hex_narrow (v : Nat) : lo32 (TextRequest.valBits false (.hex v)) = BitVec.ofNat 32 v :=
  lo32_sext64 _

/-- A hexadecimal literal is the unsigned reading of the key's bits; a 32-bit one is then sign-extended (R61). -/
theorem valBits_hex {wide : Bool} {v : Nat} (h : fitsUnsigned (if wide then 64 else 32) v = true) :
    if wide then (TextRequest.valBits wide (.hex v)).toNat = v
    else (lo32 (TextRequest.valBits wide (.hex v))).toNat = v ∧
      TextRequest.valBits wide (.hex v) = sext64 (lo32 (TextRequest.valBits wide (.hex v))) := by
  cases wide with
  | true => exact toNat_ofNat_of_fitsUnsigned h
  | false =>
    rw [lo32_valBits_hex_narrow]
    exact ⟨toNat_ofNat_of_fitsUnsigned h, rfl⟩

@[simp] theorem assemble_sd (t : TextRequest) : (assemble t).operands.sd = t.seed.isSome := cmdSD_cmdOf _ _ _ _

@[simp] theorem assemble_mg (t : TextRequest) : (assemble t).operands.mg = t.magic.isSome := cmdMG_cmdOf _ _ _ _

/-- Settles O57, field by field: a literal in its range is the number that its bits read back as. -/
theorem textualRequestsTranslate : Obligations.TextualRequestsTranslate := by
  rintro ⟨m, value, nparts, seed, magic⟩ hwf
  obtain ⟨hvalue, hnparts, hseed, hmagic⟩ := (textRequest_wf_iff _).mp hwf
  refine ⟨assembleChecked_of_wf hwf, ?_, ?_, ?_, ?_, ?_⟩
  · rw [decodeRequest_assemble]
    cases m <;> rfl
  · cases value with
    | dec v => exact toInt_valBits_dec hvalue
    | hex v => exact valBits_hex hvalue
  · cases nparts with
    | none => rfl
    | some n => exact toInt_ofInt_of_fitsSigned (by decide) ((Bool.and_eq_true_iff.mp hnparts).2)
  · cases seed with
    | none => exact ⟨assemble_sd _, rfl⟩
    | some v => exact ⟨assemble_sd _, toNat_ofNat_of_fitsUnsigned hseed⟩
  · cases magic with
    | none => exact ⟨assemble_mg _, rfl⟩
    | some v => exact ⟨assemble_mg _, toNat_ofNat_of_fitsUnsigned hmagic⟩

end Sys2Proof.Machine
end

section
/-! PROOFS of the family 40_mixer (spec/40_mixer.md): ROTL32 bit by bit, the micro-operations as single register writes
that can be undone, the step tables, and HASHWORD. -/

namespace Sys2Proof.Machine

/-! ### ROTL32 (R71, R72) -/

/-- Bit `j` of the result is bit `(j - k) mod 32` of the word (R71). -/
theorem rotl32_getLsbD (v : Word) (k : RotAmount) {j : Nat} (hj : j < 32) :
    (rotl32 v k).getLsbD j = v.getLsbD ((j + 32 - k.val) % 32) := by
  obtain ⟨k, hpos, hle⟩ := k
  rw [rotl32_eq_rotateLeft, BitVec.getLsbD_rotateLeft, Nat.mod_eq_of_lt (show k < 32 by omega)]
  by_cases h : j < k
  · rw [decide_eq_true h, cond_true, show (j + 32 - k) % 32 = 32 - k + j by omega]
  · rw [decide_eq_false h, cond_false, decide_eq_true hj, Bool.true_and, show (j + 32 - k) % 32 = j - k by omega]

/-- A word whose bits are all alike is its own rotation (R71). -/
theorem rotl32_of_bits_alike {v : Word} {b : Bool} (h : ∀ j < 32, v.getLsbD j = b) (k : RotAmount) :
    rotl32 v k = v := by
  apply BitVec.eq_of_getLsbD_eq
  intro j hj
  rw [rotl32_getLsbD v k hj, h j hj, h _ (Nat.mod_lt _ (by decide))]

/-- Settles O8: each bit by the rotation's bit law, and so the words that a rotation leaves alone. -/
theorem rotationMovesEveryBit : Obligations.RotationMovesEveryBit := by
  refine ⟨fun v k => ⟨rfl, fun j hj => rotl32_getLsbD v k hj⟩, fun k => ⟨?_, ?_⟩, by decide, by decide, by decide⟩
  · exact rotl32_of_bits_alike (b := false) (by decide) k
  · exact rotl32_of_bits_alike (b := true) (by decide) k

theorem rotl32Checked_of_ok (v : Word) {k : Nat} (h : 1 ≤ k ∧ k ≤ 31) : rotl32Checked v k = .ok (rotl32 v ⟨k, h⟩) := by
  rw [rotl32Checked, rotAmount?, dif_pos h]

theorem rotl32Checked_of_not_ok (v : Word) {k : Nat} (h : ¬(1 ≤ k ∧ k ≤ 31)) :
    rotl32Checked v k = .error (.rotationAmount k) := by
  rw [rotl32Checked, rotAmount?, dif_neg h]

/-- Settles O9, by whether the amount is in its domain. -/
theorem rotationAmountsOutsideDomainAreRefused : Obligations.RotationAmountsOutsideDomainAreRefused := by
  intro v k
  split_ifs with h
  · rw [rotl32Checked_of_ok v h, rotl32_eq_rotateLeft]
  · exact rotl32Checked_of_not_ok v h

/-! ### The micro-operations as register writes (R73 to R77) -/

section MicroOperations

variable (m : Mixer) (x y : Reg) (k : RotAmount)

theorem runOp_sub : runOp m (.sub x y) = m.set x (m.get x - m.get y) := rfl

theorem runOp_add : runOp m (.add x y) = m.set x (m.get x + m.get y) := rfl

theorem runOp_xor : runOp m (.xor x y) = m.set x (m.get x ^^^ m.get y) := rfl

theorem runOp_xorRot : runOp m (.xorRot x y k) = m.set x (m.get x ^^^ (m.get y).rotateLeft k.val) := by
  rw [runOp, rotl32_eq_rotateLeft]

theorem runOp_subRot : runOp m (.subRot x y k) = m.set x (m.get x - (m.get y).rotateLeft k.val) := by
  rw [runOp, rotl32_eq_rotateLeft]

end MicroOperations

theorem Mixer.get_set_same (m : Mixer) (x : Reg) (v : Word) : (m.set x v).get x = v := by simp

theorem Mixer.get_set_of_ne (m : Mixer) {x r : Reg} (h : r ≠ x) (v : Word) : (m.set x v).get r = m.get r := by
  simp [h]

/-- A register write changes no other register. -/
theorem Mixer.eq_or_get_set (m : Mixer) (x r : Reg) (v : Word) : r = x ∨ (m.set x v).get r = m.get r :=
  or_iff_not_imp_left.mpr fun h => m.get_set_of_ne h v

/-- The difference of two words by value: a borrow out of bit 31 is discarded (R73). -/
theorem toNat_word_sub (u v : Word) : (u - v).toNat = (u.toNat + 2 ^ 32 - v.toNat) % 2 ^ 32 := by
  have hv := v.isLt
  rw [BitVec.toNat_sub]
  omega

/-- Settles O10: each micro-operation is one register write, whose value is read back by its rule. -/
theorem microOperationsWriteOneRegister : Obligations.MicroOperationsWriteOneRegister := by
  refine ⟨fun m x y r k => ?_, by decide, by decide, by decide, by decide, by decide⟩
  have hframe := m.eq_or_get_set x r
  rw [runOp_sub, runOp_add, runOp_xorRot, runOp_xor, runOp_subRot]
  simp only [Mixer.get_set_same, toNat_word_sub, BitVec.toNat_add, true_and]
  exact ⟨hframe _, hframe _, hframe _, hframe _, hframe _⟩

/-! ### Undoing a micro-operation, and so a step table (R81, R85) -/

theorem Mixer.set_set (m : Mixer) (x : Reg) (v w : Word) : (m.set x v).set x w = m.set x w :=
  Mixer.eq_of_get fun r => by by_cases h : r = x <;> simp [h]

theorem Mixer.set_get_self (m : Mixer) (x : Reg) : m.set x (m.get x) = m :=
  Mixer.eq_of_get fun r => by by_cases h : r = x <;> simp [h]

/-- Rewriting `x` by a permutation of the words that is chosen by another register `y` can be undone: `y` still holds
what chose the permutation. -/
theorem Mixer.set_perm_bijective {x y : Reg} (hxy : x ≠ y) (f : Word → Equiv.Perm Word) :
    Function.Bijective fun m : Mixer => m.set x (f (m.get y) (m.get x)) := by
  refine Function.bijective_iff_has_inverse.mpr
    ⟨fun m => m.set x ((f (m.get y)).symm (m.get x)), fun m => ?_, fun m => ?_⟩
  · simp only [Mixer.get_set_same, Mixer.get_set_of_ne m hxy.symm, Mixer.set_set, Equiv.symm_apply_apply,
      Mixer.set_get_self]
  · simp only [Mixer.get_set_same, Mixer.get_set_of_ne m hxy.symm, Mixer.set_set, Equiv.apply_symm_apply,
      Mixer.set_get_self]

/-- `v ↦ v ^^^ u`, its own inverse. -/
def xorPerm (u : Word) : Equiv.Perm Word :=
  Function.Involutive.toPerm (· ^^^ u) fun v =>
    (BitVec.xor_assoc v u u).trans (by rw [BitVec.xor_self, BitVec.xor_zero])

/-- A micro-operation on two different registers permutes the 96-bit state (R81, R85). -/
theorem runOp_bijective {op : MicroOp} (h : op.wf = true) : Function.Bijective fun m => runOp m op := by
  cases op with
  | sub x y => exact Mixer.set_perm_bijective (of_decide_eq_true h) Equiv.subRight
  | add x y => exact Mixer.set_perm_bijective (of_decide_eq_true h) Equiv.addRight
  | xorRot x y k => exact Mixer.set_perm_bijective (of_decide_eq_true h) fun u => xorPerm (rotl32 u k)
  | xor x y => exact Mixer.set_perm_bijective (of_decide_eq_true h) xorPerm
  | subRot x y k => exact Mixer.set_perm_bijective (of_decide_eq_true h) fun u => Equiv.subRight (rotl32 u k)

/-- Settles O13, by the kind of the micro-operation. -/
theorem microOperationsAreInvertible : Obligations.MicroOperationsAreInvertible := fun _ => runOp_bijective

/-- A table of well-formed steps permutes the 96-bit state. -/
theorem runOps_bijective {ops : List MicroOp} (h : ∀ op ∈ ops, op.wf = true) : Function.Bijective (runOps ops) := by
  induction ops with
  | nil => exact Function.bijective_id
  | cons op ops ih =>
    obtain ⟨hop, hops⟩ := List.forall_mem_cons.mp h
    exact (ih hops).comp (runOp_bijective hop)

theorem finalize_bijective (g : FinalGroups) : Function.Bijective (finalize g) := by
  cases g with
  | six => exact runOps_bijective (ops := finalTable .six) (by decide)
  | seven => exact runOps_bijective (ops := finalTable .seven) (by decide)

/-- Settles O14: each of the 18 steps names two different registers. -/
theorem mixRoundIsBijective : Obligations.MixRoundIsBijective :=
  ⟨by decide, runOps_bijective (ops := mixTable) (by decide)⟩

/-- Settles O15, in the same way. -/
theorem finalizeIsBijective : Obligations.FinalizeIsBijective := by
  intro g
  refine ⟨?_, finalize_bijective g⟩
  cases g with
  | six => decide
  | seven => decide

/-! ### The step tables as assignments (R80, R83, R84) -/

/-- Settles O11: the table run step by step, each step as its register write. -/
theorem mixRoundIsEighteenAssignments : Obligations.MixRoundIsEighteenAssignments := by
  refine ⟨fun a b c => ?_, rfl, by decide⟩
  simp only [mixRound, mixTable, mixGroup, runOps_append, runOps_cons, runOps_nil, runOp_sub, runOp_add, runOp_xorRot]
  rfl

/-! A group of FINALIZE as the two assignments to its first register, for each pair of registers in its table (R83). -/

theorem finalGroup_cb_eq (k : RotAmount) (m : Mixer) :
    runOps (finalGroup .c .b k) m = ⟨m.a, m.b, (m.c ^^^ m.b) - m.b.rotateLeft k.val⟩ := by
  rw [← rotl32_eq_rotateLeft]
  rfl

theorem finalGroup_ac_eq (k : RotAmount) (m : Mixer) :
    runOps (finalGroup .a .c k) m = ⟨(m.a ^^^ m.c) - m.c.rotateLeft k.val, m.b, m.c⟩ := by
  rw [← rotl32_eq_rotateLeft]
  rfl

theorem finalGroup_ba_eq (k : RotAmount) (m : Mixer) :
    runOps (finalGroup .b .a k) m = ⟨m.a, (m.b ^^^ m.a) - m.a.rotateLeft k.val, m.c⟩ := by
  rw [← rotl32_eq_rotateLeft]
  rfl

/-- Settles O12: six groups of two assignments, and the seventh after them. -/
theorem finalizeIsItsAssignments : Obligations.FinalizeIsItsAssignments := by
  refine ⟨fun a b c => ?_, fun m => ?_, rfl, rfl, by decide, by decide⟩
  · simp only [finalize, finalTable, finalTableSix, runOps_append, finalGroup_cb_eq, finalGroup_ac_eq, finalGroup_ba_eq]
    rfl
  · rw [finalize_seven, finalGroup_cb_eq]
    rfl

/-! ### HASHWORD (R84, R88 to R92) -/

/-- Six and seven groups leave the same `A` (R84). -/
theorem finalize_seven_a (m : Mixer) : (finalize .seven m).a = (finalize .six m).a := by
  rw [finalize_seven, finalGroup_cb_a]

/-- Six and seven groups leave the same `B` (R84). -/
theorem finalize_seven_b (m : Mixer) : (finalize .seven m).b = (finalize .six m).b := by
  rw [finalize_seven, finalGroup_cb_b]

/-- The registers on which HASHWORD finalises: all `INITVAL`, the seed mixed in if it is not 0 (R88 steps 1 and 2). -/
def seeded (seed : DWord) : Mixer :=
  Mixer.addSeed seed { a := Config.initval, b := Config.initval, c := Config.initval }

theorem seeded_zero : seeded 0 = { a := Config.initval, b := Config.initval, c := Config.initval } := addSeed_zero _

theorem seeded_of_ne {seed : DWord} (h : seed ≠ 0) :
    seeded seed = mixRound { a := Config.initval + hi32 seed, b := Config.initval + lo32 seed, c := Config.initval } :=
  addSeed_of_ne h _

/-- The registers after HASHWORD, whatever they held before (R88). -/
theorem hashWordRegs_eq (g : FinalGroups) (key : Word) (seed : DWord) (m : Mixer) :
    hashWordRegs g key seed m = finalize g ((seeded seed).addKey key) := by
  rw [hashWordRegs, initialise_eq, seeded]

theorem hashWord_eq (g : FinalGroups) (key : Word) (seed : DWord) :
    hashWord g key seed = (finalize g ((seeded seed).addKey key)).output := by
  rw [hashWord, hashWordRegs_eq]

/-- The high word of a hash is `B` (R90). -/
theorem hi32_hashWord (g : FinalGroups) (key : Word) (seed : DWord) :
    hi32 (hashWord g key seed) = (finalize g ((seeded seed).addKey key)).b := by
  rw [hashWord_eq, Mixer.output, hi32_cat32]

/-- Settles O16: the seventh group writes `C` only, and the high word of a hash is `B`. -/
theorem finalGroupsTouchOnlyLowHash : Obligations.FinalGroupsTouchOnlyLowHash := by
  refine ⟨fun m => ⟨finalize_seven_a m, finalize_seven_b m⟩, fun key seed => ?_⟩
  change hi32 (hashWord .seven key seed) = hi32 (hashWord .six key seed)
  rw [hi32_hashWord, hi32_hashWord, finalize_seven_b]

theorem addKey_injective (m : Mixer) : Function.Injective fun key => m.addKey key :=
  fun _ _ h => add_left_cancel (congrArg Mixer.a h)

/-- Settles O21: the key is added into `A` of registers that only the seed determines, and FINALIZE can be undone. -/
theorem keyToRegistersIsInjective : Obligations.KeyToRegistersIsInjective := by
  intro g seed m
  simp only [hashWordRegs_eq]
  exact (finalize_bijective g).injective.comp (addKey_injective _)

/-- Settles O18: the steps by whether the seed is 0, and the worked example step by step. -/
theorem hashWordIsFiveSteps : Obligations.HashWordIsFiveSteps := by
  refine ⟨fun g key seed old => ?_, by decide, by decide, by decide, by decide, by decide, by decide, by decide⟩
  rw [hashWordRegs_eq, hashWord_eq]
  by_cases h : seed = 0
  · subst h
    exact ⟨rfl, rfl⟩
  · rw [seeded_of_ne h]
    simp only [if_pos h]
    exact ⟨rfl, rfl⟩

theorem cat32_zero_left_ne_zero {half : Word} (h : half ≠ 0) : cat32 0 half ≠ 0 := fun hz =>
  h ((lo32_cat32 0 half).symm.trans (congrArg lo32 hz))

theorem cat32_zero_right_ne_zero {half : Word} (h : half ≠ 0) : cat32 half 0 ≠ 0 := fun hz =>
  h ((hi32_cat32 half 0).symm.trans (congrArg hi32 hz))

/-- A seed whose high half is 0 is mixed once (R89). -/
theorem seeded_low_half {half : Word} (h : half ≠ 0) :
    seeded (cat32 0 half) = mixRound { a := Config.initval, b := Config.initval + half, c := Config.initval } := by
  rw [seeded_of_ne (cat32_zero_left_ne_zero h), hi32_cat32, lo32_cat32, add_zero]

/-- A seed whose low half is 0 is mixed once (R89). -/
theorem seeded_high_half {half : Word} (h : half ≠ 0) :
    seeded (cat32 half 0) = mixRound { a := Config.initval + half, b := Config.initval, c := Config.initval } := by
  rw [seeded_of_ne (cat32_zero_right_ne_zero h), hi32_cat32, lo32_cat32, add_zero]

/-- Settles O19: seed 0 leaves `INITVAL` in all three words, and a seed with one half 0 is not 0. -/
theorem zeroSeedSkipsMixRound : Obligations.ZeroSeedSkipsMixRound := by
  refine ⟨fun g key => ?_, fun g key half h => ⟨?_, ?_⟩, by decide, by decide⟩
  · rw [hashWord_eq, seeded_zero]
    rfl
  · change hashWord g key (cat32 0 half) = _
    rw [hashWord_eq, seeded_low_half h]
    rfl
  · change hashWord g key (cat32 half 0) = _
    rw [hashWord_eq, seeded_high_half h]
    rfl

end Sys2Proof.Machine
end

section
/-! PROOFS of the family 41_partition_indexer (spec/41_partition_indexer.md R100 to R124): the fold and its sign
extension, the addition of the magic, the unsigned remainder, the four commands, and how the two widths compare. -/

namespace Sys2Proof.Machine

/-! ### FOLD64 and the extended hashes (R100 to R103) -/

theorem fold64_of_neg {val : DWord} (h : val.toInt < 0) : fold64 val = lo32 val ^^^ ~~~hi32 val := by
  rw [fold64, (neg_eq_true val).mpr h]
  rfl

theorem fold64_of_not_neg {val : DWord} (h : ¬val.toInt < 0) : fold64 val = lo32 val ^^^ hi32 val := by
  rw [fold64, Bool.eq_false_iff.mpr (mt (neg_eq_true val).mp h)]
  rfl

/-- The fold of a sign-extended word is the word: the complement turns a high half of all ones into 0 (R103). -/
theorem fold64_sext64 (v : Word) : fold64 (sext64 v) = v := by
  rw [fold64, neg_sext64, lo32_sext64, hi32_sext64]
  cases v.msb with
  | true => exact (congrArg (v ^^^ ·) BitVec.not_allOnes).trans BitVec.xor_zero
  | false => exact BitVec.xor_zero

theorem toInt_lo32_of_range {val : DWord} (hlow : -(2 ^ 31 : Int) ≤ val.toInt) (hhigh : val.toInt ≤ 2 ^ 31 - 1) :
    (lo32 val).toInt = val.toInt := by
  rw [BitVec.toInt_eq_toNat_bmod, Int.bmod_def] at hlow hhigh
  rw [lo32, BitVec.toInt_extractLsb', Nat.shiftRight_zero, BitVec.toInt_eq_toNat_bmod, Int.bmod_def, Int.bmod_def]
  omega

/-- A number of the 32-bit range is the sign extension of its low word. -/
theorem sext64_lo32_of_range {val : DWord} (hlow : -(2 ^ 31 : Int) ≤ val.toInt) (hhigh : val.toInt ≤ 2 ^ 31 - 1) :
    sext64 (lo32 val) = val :=
  BitVec.eq_of_toInt_eq ((toInt_sext64 _).trans (toInt_lo32_of_range hlow hhigh))

theorem neg_cat32 (hi lo : Word) : neg (cat32 hi lo) = hi.getLsbD 31 := cat32_getLsbD hi lo 63

/-- For a fixed high half the fold is a permutation of the low half. -/
theorem fold64_cat32 (hi lo : Word) :
    fold64 (cat32 hi lo) = xorPerm (if hi.getLsbD 31 then ~~~hi else hi) lo := by
  rw [fold64, neg_cat32, lo32_cat32, hi32_cat32]
  cases hi.getLsbD 31 <;> rfl

/-- Settles O22: the fold by the sign of the key, as the inverse of sign extension on the 32-bit range, and as a
permutation of the low half. -/
theorem foldComplementsHighHalfOfNegativeKeys : Obligations.FoldComplementsHighHalfOfNegativeKeys := by
  refine ⟨fun val => ?_, fun val hlow hhigh => ?_, fun hi w => ?_, by decide, by decide, by decide, by decide⟩
  · split
    · next h => exact fold64_of_neg h
    · next h => exact fold64_of_not_neg h
  · calc fold64 val = fold64 (sext64 (lo32 val)) := by rw [sext64_lo32_of_range hlow hhigh]
      _ = lo32 val := fold64_sext64 _
  · change ∃! lo, fold64 (cat32 hi lo) = w
    simp only [fold64_cat32]
    exact (xorPerm _).bijective.existsUnique w

theorem extHash64_sext64 (g : FinalGroups) (v : Word) (seed : DWord) :
    extHash64 g (sext64 v) seed = extHash32 g v seed := by
  rw [extHash64, fold64_sext64, extHash32]

/-- Settles O23: the fold takes the sign extension back to the word. -/
theorem extendedHashesAgreeOnSignExtension : Obligations.ExtendedHashesAgreeOnSignExtension :=
  extHash64_sext64

/-! ### ADDMAGIC and UMOD (R105 to R107) -/

/-- Settles O25: the addition of two 64-bit words is the one modulo 2^64, where all ones is -1. -/
theorem magicAdditionWraps : Obligations.MagicAdditionWraps :=
  ⟨BitVec.toNat_add, fun h => ⟨addMagic_zero h, (BitVec.sub_eq_add_neg h 1).symm⟩, by decide, by decide⟩

theorem umod_toNat_lt (folded : DWord) (c : PartitionCount) : (umod folded c).toNat < c.bits.toNat := by
  rw [umod_toNat]
  have hpos := c.pos
  have hread := toInt_eq_toNat_of_pos hpos
  exact Nat.mod_lt _ (by omega)

/-- The index lies below a count of less than 2^63, so that its two readings are one number (R59, R106). -/
theorem toInt_umod (folded : DWord) (c : PartitionCount) : (umod folded c).toInt = (umod folded c).toNat := by
  have hlt := umod_toNat_lt folded c
  have hread := toInt_eq_toNat_of_pos c.pos
  have hcount := BitVec.two_mul_toInt_lt (x := c.bits)
  exact BitVec.toInt_eq_toNat_of_lt (by omega)

theorem umod_range (folded : DWord) (c : PartitionCount) :
    0 ≤ (umod folded c).toInt ∧ (umod folded c).toInt ≤ c.bits.toInt - 1 := by
  have hlt := umod_toNat_lt folded c
  rw [toInt_umod, toInt_eq_toNat_of_pos c.pos]
  omega

/-- Settles O26: the remainder is below the count, whose signed and unsigned readings agree. -/
theorem remainderIsUnsignedAndInRange : Obligations.RemainderIsUnsignedAndInRange :=
  fun folded c => ⟨umod_toNat folded c, umod_range folded c⟩

theorem umod_getLsbD_of_two_pow (folded : DWord) {c : PartitionCount} {k : Nat} (h : c.bits.toNat = 2 ^ k) (j : Nat) :
    (umod folded c).getLsbD j = (decide (j < k) && folded.getLsbD j) := by
  rw [← BitVec.testBit_toNat, umod_toNat, h, Nat.testBit_mod_two_pow, BitVec.testBit_toNat]

theorem umod_of_bits_one (folded : DWord) {c : PartitionCount} (h : c.bits = 1) : umod folded c = 0 := by
  rw [umod, h]
  exact BitVec.umod_one

/-- Settles O27, bit by bit; the examples are evaluated. -/
theorem remainderByPowerOfTwoIsLowBits : Obligations.RemainderByPowerOfTwoIsLowBits :=
  ⟨fun folded _ _ _ _ h j _ => umod_getLsbD_of_two_pow folded h j, fun folded _ h => umod_of_bits_one folded h,
    by decide, by decide, by decide, by decide⟩

/-! ### The hash commands (R114, R115) -/

/-- `CMD[1:0]` is `FN` and `W` (R51, R53). -/
theorem cmdOf_low_bits (mg sd fn w : Bool) : (cmdOf mg sd fn w).extractLsb' 0 2 = bit fn ++ bit w := by
  cases mg <;> cases sd <;> cases fn <;> cases w <;> rfl

/-- Settles O28: the register transfers of HASHX32, field by field; the examples are evaluated. -/
theorem hashX32Completes : Obligations.HashX32Completes := by
  refine ⟨fun q s => ?_, by decide, by decide, by decide, by decide⟩
  exact ⟨cmdOf_low_bits q.mg q.sd false false, _, exec_hashx32 q s, rfl, rfl, by simp [extHash32], rfl⟩

/-- A 64-bit key whose fold is the low word of another is answered by the hash of that word (R115). -/
theorem answer_hashx64_eq_hashx32 {v w : DWord} (h : fold64 v = lo32 w) (q : Operands) (s : State) :
    answer (.hashx64 { q with val := v }) s = answer (.hashx32 { q with val := w }) s := by
  simp only [answer_eq_responseOf, responseOf, extHash64, extHash32, key64_eq, key32, selectSeed, h]

/-- Settles O29: the register transfers of HASHX64, field by field; the extreme keys by their folds. -/
theorem hashX64Completes : Obligations.HashX64Completes := by
  refine ⟨fun q s => ?_, fun q s => ?_, by decide, by decide⟩
  · exact ⟨cmdOf_low_bits q.mg q.sd false true, _, exec_hashx64 q s, rfl, rfl, by simp [extHash64], rfl⟩
  · exact ⟨answer_hashx64_eq_hashx32 (by decide) q s, answer_hashx64_eq_hashx32 (by decide) q s⟩

/-! ### The index commands: registers, range, and a 32-bit number in both widths (R116, R117, R121, R122) -/

/-- The index by a positive count, in terms of the port (R106). -/
theorem umod_toNat_of_npCheck {n : DWord} {c : PartitionCount} (h : npCheck n = some c) (folded : DWord) :
    (umod folded c).toNat = folded.toNat % n.toNat := by
  rw [umod_toNat, npCheck_bits h]

/-- Settles O30: the register transfers of PIDX64, field by field, for a count that NPCHECK passes. -/
theorem partitionIndex64Completes : Obligations.PartitionIndex64Completes := by
  refine ⟨fun q s hpos => ?_, fun q s hbad => exec_pidx64_of_npCheck_none (npCheck_eq_none.mpr hbad) s,
    fun q => cmdOf_low_bits q.mg q.sd true true, by decide, by decide, by decide, by decide⟩
  obtain ⟨c, hc, -⟩ := npCheck_of_pos hpos
  exact ⟨_, exec_pidx64_of_npCheck_some hc s, rfl, rfl, rfl, by simp [extHash64], rfl, umod_toNat_of_npCheck hc _, rfl⟩

theorem foldedOf32_of_magic32 {p : Params} (h : p.magic32 = true) (q : Operands) :
    foldedOf32 p q = addMagic (extHash32 p.finalGroups (key32 q) (selectSeed q)) (selectMagic q) := by
  rw [foldedOf32, h, cond_true]

theorem foldedOf32_of_not_magic32 {p : Params} (h : p.magic32 = false) (q : Operands) :
    foldedOf32 p q = extHash32 p.finalGroups (key32 q) (selectSeed q) := by
  rw [foldedOf32, h, cond_false]

/-- `FOLDED` of PIDX64 on the sign extension of the 32-bit key (R103). -/
theorem foldedOf64_sext64 (p : Params) (q : Operands) :
    foldedOf64 p { q with val := sext64 (key32 q) } =
      addMagic (extHash32 p.finalGroups (key32 q) (selectSeed q)) (selectMagic q) :=
  congrArg (addMagic · (selectMagic q)) (extHash64_sext64 p.finalGroups (key32 q) (selectSeed q))

/-- With the magic on both paths the two widths answer a 32-bit number alike (R124 (a)). -/
theorem answer_pidx64_sext64 {s : State} (h : s.cfg.magic32 = true) (q : Operands) :
    answer (.pidx64 { q with val := sext64 (key32 q) }) s = answer (.pidx32 q) s := by
  simp only [answer_eq_responseOf, responseOf, foldedOf64_sext64, foldedOf32_of_magic32 h]

/-- `MAGICEFF` and `FOLDED` of PIDX32 for either value of `MAGIC32` (R117, R119). -/
theorem foldMagic32_writes (q : Operands) (s : State) :
    if s.cfg.magic32 = true then
      (s.foldMagic32 q).magicEff = selectMagic q ∧ (s.foldMagic32 q).folded = s.h + (s.foldMagic32 q).magicEff
    else (s.foldMagic32 q).magicEff = s.magicEff ∧ (s.foldMagic32 q).folded = s.h := by
  rw [foldMagic32_magicEff, foldMagic32_folded]
  cases s.cfg.magic32 with
  | true => exact ⟨rfl, rfl⟩
  | false => exact ⟨rfl, rfl⟩

/-- Settles O31: the register transfers of PIDX32, field by field, for a count that NPCHECK passes; the two values of
`MAGIC32` in `foldMagic32_writes`. -/
theorem partitionIndex32Completes : Obligations.PartitionIndex32Completes := by
  refine ⟨fun q s hpos => ?_, fun q s hbad => exec_pidx32_of_npCheck_none (npCheck_eq_none.mpr hbad) s,
    fun q => cmdOf_low_bits q.mg q.sd true false, fun q s h => (answer_pidx64_sext64 h q).symm,
    by decide, by decide, by decide, by decide⟩
  obtain ⟨c, hc, -⟩ := npCheck_of_pos hpos
  refine ⟨_, exec_pidx32_of_npCheck_some hc s, ?_, ?_, ?_, ?_, umod_toNat_of_npCheck hc _, ?_⟩
  · exact foldMagic32_seedEff _ q
  · exact foldMagic32_key _ q
  · simp [extHash32]
  · rw [finishIndex_h, foldMagic32_h]
    exact foldMagic32_writes q ((s.setSeedEff (selectSeed q)).runExtHash32 (key32 q))
  · simp

/-- With a positive count an index command answers the remainder, in range (R121). -/
theorem indexResponse_in_range {n : DWord} (h : 0 < n.toInt) (folded : DWord) :
    ∃ v, indexResponse n folded = { err := false, result := v } ∧
      0 ≤ v.toInt ∧ v.toInt ≤ n.toInt - 1 ∧ v.toInt = v.toNat := by
  obtain ⟨c, hc, rfl⟩ := npCheck_of_pos h
  obtain ⟨hlow, hhigh⟩ := umod_range folded c
  exact ⟨umod folded c, indexResponse_of_npCheck_some hc folded, hlow, hhigh, toInt_umod folded c⟩

/-- Settles O38: both index commands answer `indexResponse` of the count. -/
theorem indexLiesInRange : Obligations.IndexLiesInRange := by
  intro q s hpos
  simp only [answer_eq_responseOf, responseOf, Option.some_inj]
  exact ⟨indexResponse_in_range hpos _, indexResponse_in_range hpos _⟩

theorem indexResponse_one (folded : DWord) : indexResponse 1 folded = { err := false, result := 0 } := by
  rw [indexResponse_of_pos (by decide)]
  exact congrArg (Response.mk false) BitVec.umod_one

/-- Settles O39: the remainder by 1 is 0, whatever `FOLDED` is. -/
theorem singlePartitionHasIndexZero : Obligations.SinglePartitionHasIndexZero := by
  intro q s hone
  simp only [answer_eq_responseOf, responseOf, hone, indexResponse_one, and_self]

/-! ### The two widths (R124) -/

/-- Settles O40: a number of the 32-bit range is the sign extension of its low word, and the fold undoes the extension. -/
theorem widthsAgreeWithMagicOnBothPaths : Obligations.WidthsAgreeWithMagicOnBothPaths := by
  intro q s hmagic
  refine ⟨answer_pidx64_sext64 hmagic q, fun v hlow hhigh => ?_⟩
  have h := answer_pidx64_sext64 hmagic { q with val := v }
  rwa [key32, sext64_lo32_of_range hlow hhigh] at h

/-- The default magic is 3 modulo 16, and 16 divides 2^64, so that the wrap of the addition does not show (R124). -/
theorem addMagic_default_umod_sixteen (h : DWord) :
    (addMagic h Config.defaultMagic % 16).toNat = ((h % 16).toNat + 3) % 16 := by
  have hmagic : Config.defaultMagic.toNat = 0x4992394D24F64163 := rfl
  have hcount : (16 : DWord).toNat = 16 := rfl
  rw [addMagic, BitVec.toNat_umod, BitVec.toNat_umod, BitVec.toNat_add, hmagic, hcount]
  omega

/-- Settles O41: the two `FOLDED` are one hash with and without the default magic. -/
theorem widthsDifferByThreeWithoutMagic : Obligations.WidthsDifferByThreeWithoutMagic := by
  intro q s hmagic hcount hmg
  have hdiff := addMagic_default_umod_sixteen (extHash32 s.cfg.finalGroups (key32 q) (selectSeed q))
  refine ⟨_, _, ?_, ?_, hdiff, fun heq => ?_⟩
  · change answer (.pidx64 { q with val := sext64 (key32 q) }) s = _
    rw [answer_eq_responseOf, responseOf, foldedOf64_sext64, selectMagic_default hmg, hcount,
      indexResponse_of_pos (by decide)]
  · rw [answer_eq_responseOf, responseOf, foldedOf32_of_not_magic32 hmagic, hcount, indexResponse_of_pos (by decide)]
  · rw [heq] at hdiff
    omega

end Sys2Proof.Machine
end

section
/-! PROOFS of the family 60_exceptions (spec/60_exceptions.md R130 to R138): the one error, InvalidPartitionCount, is a
response like any other, and nothing that the host drives stops the machine. -/

namespace Sys2Proof.Machine

/-- Settles O47: every kind of edge answers a next state, an edge that accepts a request with a bad count included. -/
theorem everyStepAnswersNext : Obligations.EveryStepAnswersNext := by
  intro s
  obtain ⟨t, ht, -⟩ := step_edgeLeaves s
  exact ⟨t, ht⟩

/-- From an error response the host recovers the offending count (R131). -/
@[simp] theorem offendingCount?_of_err (v : DWord) :
    ({ err := true, result := v } : Response).offendingCount? = some v.toInt := rfl

/-- Settles O32: where NPCHECK rejects the count, the raise is the whole effect of an index command; where it passes the
count, the response is a remainder without error; and a hash command does not check its count. -/
theorem nonPositiveCountRaisesError : Obligations.NonPositiveCountRaisesError := by
  refine ⟨fun q s hbad => ?_, fun q s hpos => ?_, fun q s => ?_⟩
  · have hnone : npCheck q.nparts = none := npCheck_eq_none.mpr hbad
    exact ⟨⟨exec_pidx32_of_npCheck_none hnone s, exec_pidx64_of_npCheck_none hnone s⟩,
      _, offendingCount?_of_err q.nparts, rfl, hbad⟩
  · simp only [answer_eq_responseOf, responseOf, indexResponse_of_pos hpos]
    exact ⟨⟨_, rfl⟩, ⟨_, rfl⟩⟩
  · exact ⟨⟨_, answer_eq_responseOf (.hashx32 q) s⟩, ⟨_, answer_eq_responseOf (.hashx64 q) s⟩⟩

end Sys2Proof.Machine
end

section
/-! PROOFS of the family 70_reset_and_hazards (spec/70_reset_and_hazards.md R150 to R161): the invariant of the stages,
what an accepting edge and a reset edge do, and the order and the cycle in which a run presents its responses. -/

namespace Sys2Proof.Machine

/-! ### Every response a command enters is consistent (R131) -/

theorem Response.consistent_of_not_err {r : Response} (h : r.err = false) : r.Consistent := by
  simp [Response.Consistent, h]

/-- NPCHECK rejects a count exactly where it is not positive, so the count in an error response is not positive. -/
theorem indexResponse_consistent (nparts folded : DWord) : (indexResponse nparts folded).Consistent := by
  cases hn : npCheck nparts with
  | none =>
    rw [indexResponse_of_npCheck_none hn]
    exact fun _ => npCheck_eq_none.mp hn
  | some n =>
    rw [indexResponse_of_npCheck_some hn]
    exact Response.consistent_of_not_err rfl

theorem responseOf_consistent (p : Params) (i : Instr) : (responseOf p i).Consistent := by
  cases i with
  | hashx32 q => exact Response.consistent_of_not_err rfl
  | hashx64 q => exact Response.consistent_of_not_err rfl
  | pidx32 q => exact indexResponse_consistent q.nparts _
  | pidx64 q => exact indexResponse_consistent q.nparts _

theorem enters_of_accept {e : Edge} (h : e.reqValid = true) (p : Params) :
    enters p e = some (responseOf p (decodeRequest e.req)) := if_pos h

theorem enters_of_idle {e : Edge} (h : e.reqValid = false) (p : Params) : enters p e = none := by
  simp [enters, h]

theorem consistent_of_enters {p : Params} {e : Edge} {r : Response} (h : enters p e = some r) : r.Consistent := by
  cases hv : e.reqValid with
  | true =>
    rw [enters_of_accept hv, Option.some_inj] at h
    exact h ▸ responseOf_consistent p _
  | false =>
    rw [enters_of_idle hv] at h
    cases h

/-! ### The stages at an edge, and the invariant (R156, R158) -/

theorem stages_of_not_reset {s : State} (h : s.edge.rst = false) : s.stages = s.pipe ++ [enters s.cfg s.edge] := by
  simp [State.stages, h]

theorem stages_ne_nil (s : State) : s.stages ≠ [] := by
  cases hr : s.edge.rst with
  | true => simp [stages_of_reset hr]
  | false => simp [stages_of_not_reset hr]

/-- The stages are what the next cycle presents and, behind it, what then stays in flight. -/
theorem State.EdgeLeaves.stages_eq {s t : State} (h : s.EdgeLeaves t) : s.stages = t.out :: t.pipe := by
  rw [h.out, h.pipe]
  obtain ⟨x, xs, hx⟩ := List.exists_cons_of_ne_nil (stages_ne_nil s)
  rw [hx, List.headD_cons, List.tail_cons]

theorem State.Inv.length_stages {s : State} (h : s.Inv) : s.stages.length = s.cfg.lat + 1 := by
  obtain ⟨hlength, -, -⟩ := h
  cases hr : s.edge.rst with
  | true => simp [stages_of_reset hr]
  | false => simp [stages_of_not_reset hr, hlength]

theorem State.Inv.consistent_of_mem_stages {s : State} (h : s.Inv) {r : Response} (hr : some r ∈ s.stages) :
    r.Consistent := by
  obtain ⟨-, hpipe, -⟩ := h
  cases hrst : s.edge.rst with
  | true => simp [stages_of_reset hrst] at hr
  | false =>
    rw [stages_of_not_reset hrst, List.mem_append, List.mem_singleton] at hr
    obtain hold | hnew := hr
    · exact hpipe r hold
    · exact consistent_of_enters hnew.symm

/-- Settles O48: an edge moves the stages by one, and what it lets in behind them is consistent. -/
theorem stepKeepsTheInvariant : Obligations.StepKeepsTheInvariant := by
  intro s t hinv hstep
  have hleaves := edgeLeaves_of_step hstep
  have hlength := hinv.length_stages
  have hconsistent : ∀ r : Response, some r ∈ s.stages → r.Consistent := fun _ => hinv.consistent_of_mem_stages
  rw [hleaves.stages_eq] at hlength hconsistent
  refine ⟨?_, fun r hr => ?_, fun r hr => ?_⟩
  · rw [hleaves.cfg]
    exact Nat.succ_inj.mp hlength
  · exact hconsistent r (List.mem_cons_of_mem _ hr)
  · exact hconsistent r (hr ▸ List.mem_cons_self)

/-- There are `LAT` stages, all empty, and nothing is presented. -/
theorem initial_inv (p : Params) : (State.initial p).Inv := by
  refine ⟨?_, fun r hr => ?_, fun r hr => ?_⟩
  · rw [initial_pipe, initial_cfg, List.length_replicate]
  · cases List.eq_of_mem_replicate hr
  · cases hr

/-- Settles O49: reset is the initial state of one choice of the parameters. -/
theorem resetMeetsTheInvariant : Obligations.ResetMeetsTheInvariant :=
  ⟨initial_inv Config.params, initial_inv⟩

/-- Settles O50: a transaction in flight fills one of the `LAT` stages. -/
theorem atMostLatTransactionsInFlight : Obligations.AtMostLatTransactionsInFlight := by
  intro s t hinv hstep
  obtain ⟨hlength, -, -⟩ := stepKeepsTheInvariant s t hinv hstep
  calc t.inFlight.length ≤ t.pipe.length := List.length_filterMap_le id t.pipe
    _ = t.cfg.lat := hlength

/-! ### One edge (R151, R157) -/

/-- Settles O44: the command at an accepting edge completes, and the cycle that follows is `State.endCycle`. -/
theorem stepRunsTheDecodedRequest : Obligations.StepRunsTheDecodedRequest := by
  intro s e es hedges hrst hvalid
  obtain rfl : s.edge = e := edge_of_cons hedges
  obtain ⟨t, hexec, -⟩ := exec_answers_responseOf (decodeRequest s.edge.req) s
  rw [step_of_accept hrst hvalid hexec, hexec]
  rfl

/-- What holds of the next `n + 1` edges, and of the idle edge past their end, holds of the next edge and of the `n`
after it. -/
theorem forall_edges_succ {P : Edge → Prop} (hidle : P Edge.idle) {s : State} {n : Nat}
    (h : ∀ e ∈ s.edges.take (n + 1), P e) : P s.edge ∧ ∀ e ∈ s.edges.tail.take n, P e := by
  cases hedges : s.edges with
  | nil => simpa [edge_of_nil hedges] using hidle
  | cons e es => simpa [edge_of_cons hedges, hedges] using h

/-- With nothing in flight, an edge that accepts no request, one with `RST` = 1 included, presents nothing and leaves
nothing in flight. -/
theorem stages_of_empty {s : State} (hpipe : s.pipe = List.replicate s.cfg.lat none)
    (h : s.edge.rst = true ∨ s.edge.reqValid = false) : s.stages = none :: List.replicate s.cfg.lat none := by
  cases hr : s.edge.rst with
  | true => exact stages_of_reset hr
  | false =>
    rw [stages_of_idle hr (by simpa [hr] using h), hpipe, ← List.replicate_succ', List.replicate_succ]

/-- From empty stages the ports stay silent for as long as no request is accepted (R151, R158). -/
theorem outputs_of_empty (n : Nat) {s : State} (hpipe : s.pipe = List.replicate s.cfg.lat none)
    (h : ∀ e ∈ s.edges.take n, e.rst = true ∨ e.reqValid = false) : outputs n s = List.replicate n none := by
  induction n generalizing s with
  | zero => rfl
  | succ n ih =>
    obtain ⟨hnow, hlater⟩ := forall_edges_succ (.inr rfl) h
    obtain ⟨t, hstep, ht⟩ := step_edgeLeaves s
    obtain ⟨hout, hempty⟩ := List.cons.inj (ht.stages_eq.symm.trans (stages_of_empty hpipe hnow))
    rw [outputs_succ_of_step hstep, hout, ih (ht.cfg ▸ hempty) (ht.edges ▸ hlater), List.replicate_succ]

/-- Settles O46: a reset edge leaves empty stages, from which nothing comes. -/
theorem resetDiscardsEverythingInFlight : Obligations.ResetDiscardsEverythingInFlight := by
  intro s hrst
  exact ⟨s.resetEdge, step_of_reset hrst, initial_inFlight s.cfg, rfl, rfl, rfl, fun n h => outputs_of_empty n rfl h⟩

/-! ### Runs without reset (R156, R158, R160) -/

/-- What the next `n` edges let into the block, if none asserts `RST`: nothing past the end of the list. -/
def entering (p : Params) : Nat → List Edge → List (Option Response)
  | 0, _      => []
  | n + 1, es => enters p (es.headD Edge.idle) :: entering p n es.tail

/-- The ports present the stages and then, in order, what the edges let in (R156). Each edge moves one entry across. -/
theorem outputs_of_noReset (n : Nat) {s : State} (h : NoReset (s.edges.take n)) :
    outputs n s = (s.pipe ++ entering s.cfg n s.edges).take n := by
  induction n generalizing s with
  | zero => rfl
  | succ n ih =>
    obtain ⟨hnow, hlater⟩ := @forall_edges_succ (·.rst = false) rfl s n h
    obtain ⟨t, hstep, ht⟩ := step_edgeLeaves s
    have hstages : t.out :: t.pipe = s.pipe ++ [enters s.cfg s.edge] := by
      rw [← ht.stages_eq, stages_of_not_reset hnow]
    calc outputs (n + 1) s = t.out :: outputs n t := outputs_succ_of_step hstep n
      _ = t.out :: (t.pipe ++ entering s.cfg n s.edges.tail).take n := by
          rw [ih (ht.edges ▸ hlater), ht.cfg, ht.edges]
      _ = ((t.out :: t.pipe) ++ entering s.cfg n s.edges.tail).take (n + 1) := rfl
      _ = (s.pipe ++ entering s.cfg (n + 1) s.edges).take (n + 1) := by
          rw [hstages, List.append_assoc]
          rfl

/-- Settles O52: the response enters behind the `LAT` stages, so it is at index `LAT` of the outputs. -/
theorem responseIsPresentedAfterLatency : Obligations.ResponseIsPresentedAfterLatency := by
  intro s e es hinv hedges hrst hvalid hnoReset
  obtain ⟨hlength, -, -⟩ := hinv
  have hrun : NoReset (s.edges.take (s.cfg.lat + 1)) := by
    rw [hedges, List.take_succ_cons]
    exact List.forall_mem_cons.mpr ⟨hrst, hnoReset⟩
  rw [outputs_of_noReset _ hrun, List.getElem?_take_of_lt (Nat.lt_succ_self _),
    List.getElem?_append_right hlength.le, hlength, Nat.sub_self, hedges, entering]
  exact congrArg some (enters_of_accept hvalid s.cfg)

theorem entering_nil (p : Params) (n : Nat) : entering p n [] = List.replicate n none := by
  induction n with
  | zero => rfl
  | succ n ih => exact congrArg (none :: ·) ih

theorem entering_length_add (p : Params) (es : List Edge) (n : Nat) :
    entering p (es.length + n) es = es.map (enters p) ++ List.replicate n none := by
  induction es with
  | nil => simp [entering_nil]
  | cons e es ih => simp [Nat.succ_add, entering, ih]

theorem accepted_cons_of_accept {e : Edge} (h : e.reqValid = true) (es : List Edge) :
    accepted (e :: es) = e.req :: accepted es := by
  simp [accepted, h]

theorem accepted_cons_of_idle {e : Edge} (h : e.reqValid = false) (es : List Edge) :
    accepted (e :: es) = accepted es := by
  simp [accepted, h]

/-- The responses among what the edges of a run let in are those of its accepted requests, in order (R157). -/
theorem filterMap_map_enters (p : Params) (es : List Edge) :
    (es.map (enters p)).filterMap id = (accepted es).map (fun r => responseOf p (decodeRequest r)) := by
  induction es with
  | nil => rfl
  | cons e es ih =>
    cases hv : e.reqValid with
    | true =>
      rw [accepted_cons_of_accept hv, List.map_cons, List.map_cons, enters_of_accept hv]
      exact congrArg (responseOf p (decodeRequest e.req) :: ·) ih
    | false => rw [accepted_cons_of_idle hv, List.map_cons, enters_of_idle hv, List.filterMap_cons_none rfl, ih]

/-- The ports over a whole run and `LAT` edges more: the stages at its start, then what its edges let in. -/
theorem outputs_of_run {s : State} (hinv : s.Inv) (h : NoReset s.edges) :
    outputs (s.edges.length + s.cfg.lat) s = s.pipe ++ s.edges.map (enters s.cfg) := by
  obtain ⟨hlength, -, -⟩ := hinv
  rw [outputs_of_noReset _ fun e he => h e (List.mem_of_mem_take he), entering_length_add, ← List.append_assoc]
  exact List.take_left' (by rw [List.length_append, List.length_map, hlength, Nat.add_comm])

/-- Settles O53: the responses are read off what the run presents, cycle for cycle. -/
theorem runPresentsEveryResponseInOrder : Obligations.RunPresentsEveryResponseInOrder := by
  intro s hinv hnoReset
  have hrun := outputs_of_run hinv hnoReset
  have hresponses : (outputs (s.edges.length + s.cfg.lat) s).filterMap id =
      s.inFlight ++ (accepted s.edges).map (fun r => responseOf s.cfg (decodeRequest r)) := by
    rw [hrun, List.filterMap_append, filterMap_map_enters, State.inFlight]
  refine ⟨hrun, hresponses, fun hnone => ?_⟩
  rw [hresponses, hnone, List.nil_append, List.length_map]

end Sys2Proof.Machine
end

section
/-! PROOFS of the family other: the encoder as the inverse of the decoder (spec/30_encoding.md R50 to R53), the refusal of
textual requests (R60), and the registers and the frame of each command and of an idle edge. -/

namespace Sys2Proof

/-! ### The encoder puts `FN` and `W` back (R51, R53) -/

theorem encodeRequest_ofFields (fn w : Bool) (q : Operands) : encodeRequest (Instr.ofFields fn w q) = q.request fn w := by
  cases fn <;> cases w <;> rfl

/-- A request is its operands with its `FN` and `W`: `SD` and `MG` stand in the operands. -/
theorem request_operands (r : Request) : r.operands.request (cmdFN r.cmd) (cmdW r.cmd) = r :=
  congrArg (fun c => { r with cmd := c }) (cmdOf_fields r.cmd)

theorem encodeRequest_decodeRequest (r : Request) : encodeRequest (decodeRequest r) = r := by
  rw [decodeRequest_eq_ofFields, encodeRequest_ofFields, request_operands]

/-- Settles O2: the decoded command keeps all five ports of the request, and they are all of the word. -/
theorem encodeOfDecodeIsIdentity : Obligations.EncodeOfDecodeIsIdentity := by
  intro w
  rw [decode, encode, encodeRequest_decodeRequest, Request.pack_unpack]

end Sys2Proof

namespace Sys2Proof.Machine

/-! ### The ranges of a textual request (R60) -/

theorem fitsUnsigned_iff {n v : Nat} : fitsUnsigned n v = true ↔ v < 2 ^ n := decide_eq_true_iff

/-- The signed range of `n` bits with its largest number written out. -/
theorem fitsSigned_iff_le {n : Nat} {v : Int} :
    fitsSigned n v = true ↔ -(2 ^ (n - 1) : Int) ≤ v ∧ v ≤ 2 ^ (n - 1) - 1 :=
  fitsSigned_iff.trans (and_congr_right' Int.le_sub_one_iff.symm)

theorem valueOk_iff (t : TextRequest) :
    t.valueOk = true ↔
      match t.value with
      | .dec v =>
        if t.mnemonic.wide then -(2 ^ 63 : Int) ≤ v ∧ v ≤ 2 ^ 63 - 1 else -(2 ^ 31 : Int) ≤ v ∧ v ≤ 2 ^ 31 - 1
      | .hex v => if t.mnemonic.wide then v < 2 ^ 64 else v < 2 ^ 32 := by
  obtain ⟨m, value, nparts, seed, magic⟩ := t
  cases value with
  | dec v => cases m <;> exact fitsSigned_iff_le
  | hex v => cases m <;> exact fitsUnsigned_iff

theorem all_fitsUnsigned_iff {n : Nat} (x : Option Nat) :
    x.all (fitsUnsigned n) = true ↔ ∀ v, x = some v → v < 2 ^ n := by
  simp only [Option.all_eq_true, fitsUnsigned_iff]

/-! ### One violation, one name (log entry 20) -/

section Refusals

variable {t : TextRequest}

theorem assembleChecked_of_bad_value (h : t.valueOk = false) : assembleChecked t = .error .valueRange := by
  simp [assembleChecked, h]

/-- A count is bad where it is missing, where it is not allowed, and where it is out of range. -/
theorem npartsOk_eq_false_iff :
    t.npartsOk = false ↔
      (t.nparts = none ∧ t.mnemonic.index = true) ∨
      (∃ n, t.nparts = some n ∧ t.mnemonic.index = false) ∨
      (∃ n, t.nparts = some n ∧ t.mnemonic.index = true ∧ fitsSigned 64 n = false) := by
  unfold TextRequest.npartsOk
  cases t.nparts with
  | none => simp
  | some n => cases t.mnemonic.index <;> simp

theorem assembleChecked_of_count_missing (hvalue : t.valueOk = true) (hnone : t.nparts = none)
    (hindex : t.mnemonic.index = true) : assembleChecked t = .error .npartsMissing := by
  have hbad : t.npartsOk = false := npartsOk_eq_false_iff.mpr (.inl ⟨hnone, hindex⟩)
  simp [assembleChecked, hvalue, hbad, hnone]

theorem assembleChecked_of_count_not_allowed {n : Int} (hvalue : t.valueOk = true) (hsome : t.nparts = some n)
    (hindex : t.mnemonic.index = false) : assembleChecked t = .error .npartsNotAllowed := by
  have hbad : t.npartsOk = false := npartsOk_eq_false_iff.mpr (.inr (.inl ⟨n, hsome, hindex⟩))
  simp [assembleChecked, hvalue, hbad, hsome, hindex]

theorem assembleChecked_of_count_range {n : Int} (hvalue : t.valueOk = true) (hsome : t.nparts = some n)
    (hindex : t.mnemonic.index = true) (hrange : fitsSigned 64 n = false) :
    assembleChecked t = .error .npartsRange := by
  have hbad : t.npartsOk = false := npartsOk_eq_false_iff.mpr (.inr (.inr ⟨n, hsome, hindex, hrange⟩))
  simp [assembleChecked, hvalue, hbad, hsome, hindex]

theorem assembleChecked_of_bad_seed (hvalue : t.valueOk = true) (hnparts : t.npartsOk = true)
    (h : t.seedOk = false) : assembleChecked t = .error .seedRange := by
  simp [assembleChecked, hvalue, hnparts, h]

theorem assembleChecked_of_bad_magic (hvalue : t.valueOk = true) (hnparts : t.npartsOk = true)
    (hseed : t.seedOk = true) (h : t.magicOk = false) : assembleChecked t = .error .magicRange := by
  simp [assembleChecked, hvalue, hnparts, hseed, h]

/-- By the first check that fails; with none, the request is well formed. -/
theorem assembleChecked_of_not_wf (h : t.wf = false) : ∃ e, assembleChecked t = .error e := by
  cases hvalue : t.valueOk with
  | false => exact ⟨_, assembleChecked_of_bad_value hvalue⟩
  | true =>
    cases hnparts : t.npartsOk with
    | false =>
      obtain ⟨hnone, hindex⟩ | ⟨n, hsome, hindex⟩ | ⟨n, hsome, hindex, hrange⟩ := npartsOk_eq_false_iff.mp hnparts
      · exact ⟨_, assembleChecked_of_count_missing hvalue hnone hindex⟩
      · exact ⟨_, assembleChecked_of_count_not_allowed hvalue hsome hindex⟩
      · exact ⟨_, assembleChecked_of_count_range hvalue hsome hindex hrange⟩
    | true =>
      cases hseed : t.seedOk with
      | false => exact ⟨_, assembleChecked_of_bad_seed hvalue hnparts hseed⟩
      | true =>
        have hmagic : t.magicOk = false := by
          simpa [TextRequest.wf, hvalue, hnparts, hseed] using h
        exact ⟨_, assembleChecked_of_bad_magic hvalue hnparts hseed hmagic⟩

theorem wf_eq_false_iff_refused : t.wf = false ↔ ∃ e, assembleChecked t = .error e := by
  refine ⟨assembleChecked_of_not_wf, fun ⟨e, he⟩ => ?_⟩
  by_contra hwf
  cases (assembleChecked_of_wf (Bool.eq_true_of_not_eq_false hwf)).symm.trans he

end Refusals

theorem fitsSigned_64_of_outside {n : Int} (h : n < -(2 ^ 63 : Int) ∨ 2 ^ 63 - 1 < n) : fitsSigned 64 n = false :=
  Bool.eq_false_of_not_eq_true fun hfits => by
    obtain ⟨hlow, hhigh⟩ := fitsSigned_iff_le.mp hfits
    omega

/-- Settles O58, clause by clause: what each check admits, and the name of the first that fails. -/
theorem textualRequestsOutOfRangeAreRefused : Obligations.TextualRequestsOutOfRangeAreRefused := by
  intro t
  refine ⟨⟨valueOk_iff t, all_fitsUnsigned_iff t.seed, all_fitsUnsigned_iff t.magic⟩, assembleChecked_of_bad_value,
    fun hvalue => ⟨?_, ?_, ?_⟩, fun hvalue hnparts => ⟨?_, ?_⟩, wf_eq_false_iff_refused⟩
  · exact assembleChecked_of_count_missing hvalue
  · exact fun _ => assembleChecked_of_count_not_allowed hvalue
  · exact fun _ hsome hindex hrange =>
      assembleChecked_of_count_range hvalue hsome hindex (fitsSigned_64_of_outside hrange)
  · exact assembleChecked_of_bad_seed hvalue hnparts
  · exact assembleChecked_of_bad_magic hvalue hnparts

/-! ### The registers a command leaves, and its frame (log entry 8) -/

/-- FOLD64 by the sign of the key's two's-complement reading (R100). -/
theorem fold64_eq (val : DWord) :
    fold64 val = if val.toInt < 0 then lo32 val ^^^ ~~~hi32 val else lo32 val ^^^ hi32 val := by
  split_ifs with h
  · exact fold64_of_neg h
  · exact fold64_of_not_neg h

/-- The magic step of PIDX32 writes `MAGICEFF` and `FOLDED` and nothing else, `MAGICEFF` only with `MAGIC32` = 1 (R119). -/
theorem foldMagic32_eq (q : Operands) (s : State) :
    s.foldMagic32 q =
      (s.setMagicEff (if s.cfg.magic32 = true then selectMagic q else s.magicEff)).setFolded
        (if s.cfg.magic32 = true then s.h + selectMagic q else s.h) := by
  unfold State.foldMagic32
  cases s.cfg.magic32 with
  | true => rfl
  | false => rfl

/-- EXTHASH64 inside a transaction with its key in the form of FOLD64. -/
theorem runExtHash64_eq (val : DWord) (s : State) :
    s.runExtHash64 val = ((s.setHalves (lo32 val) (hi32 val)).setKey (fold64 val)).runHashWord := rfl

/-- Settles O59: the register transfers of each command; FOLD64 by the sign of the key, the magic step of PIDX32 by
`MAGIC32`, and UMOD as the remainder by the count that NPCHECK passes. -/
theorem commandsLeaveTheirRegisters : Obligations.CommandsLeaveTheirRegisters := by
  intro q s seed magic lo hi k64 regs32 regs64 h32 h64 folded32 idx
  have hkey : fold64 q.val = k64 := fold64_eq q.val
  refine ⟨exec_hashx32 q s, ?_, fun hpos => ?_⟩
  · rw [exec_hashx64, key64_eq, runExtHash64_eq, hkey]
    rfl
  · obtain ⟨c, hc, hbits⟩ := npCheck_of_pos hpos
    have hidx (folded : DWord) : umod folded c = idx folded := umod_of_bits folded hbits
    constructor
    · rw [exec_pidx32_of_npCheck_some hc, foldMagic32_eq, State.finishIndex, State.runUmod, hidx]
      rfl
    · rw [exec_pidx64_of_npCheck_some hc, key64_eq, runExtHash64_eq, hkey, State.finishIndex, State.runUmod, hidx]
      rfl

/-- Settles O33: the register transfers of a hash command name each field they write. -/
theorem hashCommandsFrame : Obligations.HashCommandsFrame := by
  refine ⟨fun q s t hexec => ?_, fun q s t hexec => ?_⟩
  · cases (exec_hashx32 q s).symm.trans hexec
    exact ⟨rfl, _, rfl⟩
  · cases (exec_hashx64 q s).symm.trans hexec
    exact ⟨rfl, _, rfl⟩

/-- Settles O34, by the outcome of NPCHECK: the raise writes the response only; past NPCHECK the register transfers name
each field they write, and PIDX32 writes `MAGICEFF` as `foldMagic32_eq` says. -/
theorem partitionIndexCommandsFrame : Obligations.PartitionIndexCommandsFrame := by
  refine ⟨fun q s t hexec => ?_, fun q s t hexec => ?_⟩
  · cases hn : npCheck q.nparts with
    | none =>
      cases (exec_pidx32_of_npCheck_none hn s).symm.trans hexec
      exact ⟨rfl, fun _ => rfl, _, rfl⟩
    | some n =>
      rw [exec_pidx32_of_npCheck_some hn, foldMagic32_eq] at hexec
      cases hexec
      exact ⟨rfl, fun hmagic => if_neg (by simp [hmagic]), _, rfl⟩
  · cases hn : npCheck q.nparts with
    | none =>
      cases (exec_pidx64_of_npCheck_none hn s).symm.trans hexec
      exact ⟨rfl, _, rfl⟩
    | some n =>
      cases (exec_pidx64_of_npCheck_some hn s).symm.trans hexec
      exact ⟨rfl, _, rfl⟩

/-- Settles O45: nothing enters behind the stages, and the cycle that follows presents the oldest. -/
theorem edgeWithoutRequestMovesStagesOnly : Obligations.EdgeWithoutRequestMovesStagesOnly :=
  fun _ hrst hvalid => step_of_idle hrst hvalid

end Sys2Proof.Machine
end
